-- ==== Sys2Proof/Word.lean ====
section
/-! DEFINITION. The word types of EPX128 (00_scope.md R9): W values and table entries are 128 bits, register halves
and host registers 64, command words 32; the filter bitmap is 65536 single bits (10_state.md R32). -/

namespace Sys2Proof

/-- A 128-bit W register value or power-table entry (R9). -/
abbrev Wide := BitVec 128

/-- A 64-bit half of a W register, or a 64-bit host register (R9). -/
abbrev Half := BitVec 64

/-- A 32-bit command word (R9, R80). -/
abbrev CommandWord := BitVec 32

/-- One byte lane of a host bus (20_memory.md R53). -/
abbrev Byte := BitVec 8

/-- The filter bitmap FB[0] to FB[65535] (10_state.md R32): bit `k` is `FB[k]`. -/
abbrev Filter := BitVec 65536

end Sys2Proof
end

