-- ==== Sys2Proof/Syntax.lean ====
section
/-! DEFINITION. What the block and its host are given to do: the sixteen commands of the opcode table (30_encoding.md
R86), the host accesses of the register window (20_memory.md R51), and the source lines of the assembler (R92, R93). -/

namespace Sys2Proof

/-- A W register number. Every 3-bit value names a register (R84). -/
abbrev Reg := Fin 8

/-- The commands of spec/opcode_table.json, one constructor a row, with the fields their format uses (R82). -/
inductive Instr where
  | nop
  | li     (rd : Reg) (imm17 : BitVec 17)
  | mov    (rd rs1 : Reg)
  | add    (rd rs1 rs2 : Reg)
  | mul    (rd rs1 rs2 : Reg)
  | mulll  (rd rs1 rs2 : Reg)
  | pow5   (rd rs1 : Reg)
  | cmp    (rs1 rs2 : Reg)
  | fold16 (rd rs1 : Reg)
  | fold32 (rd rs1 : Reg)
  | fold64 (rd rs1 : Reg)
  | build
  | ldp    (rd rs1 : Reg)
  | lookup (rd rs1 : Reg)
  | fprobe (rs1 : Reg)
  | setcur (rs1 : Reg)
deriving DecidableEq, Repr

/-- The names of the opcode map's rows (R86). -/
inductive Mnemonic where
  | nop | li | mov | add | mul | mulll | pow5 | cmp | fold16 | fold32 | fold64
  | build | ldp | lookup | fprobe | setcur
deriving DecidableEq, Repr

/-- The six formats of R82: which fields a command uses. -/
inductive Format where
  | f0 | fi | fr | frr | fc | fs
deriving DecidableEq, Repr

/-- A host access to the block (R51): `MemRead(addr, size)` or `MemWrite(addr, size, v)`, the size in bytes. -/
inductive HostAccess where
  | read  (addr size : Nat)
  | write (addr size : Nat) (v : Half)
deriving DecidableEq, Repr

/-- The registers of the window by name (R54). -/
inductive HostReg where
  | cmd | status | ecause | einfo | config | n | cursor | irqen
  | cmdcnt | lkcnt | fhcnt | hitcnt
  | wLo (r : Reg) | wHi (r : Reg)
  | reserved
deriving DecidableEq, Repr

/-- The mnemonics a source line may use: a command's, or a pseudo-instruction's (R92, R93). -/
inductive SourceName where
  | command (m : Mnemonic)
  | clr | sqr | dbl | probe
deriving DecidableEq, Repr

/-- An operand as written: `w<number>`, or an immediate in decimal or hexadecimal (R92). -/
inductive SourceOperand where
  | reg (number : Nat)
  | imm (value : Nat)
deriving DecidableEq, Repr

/-- One source line of the assembler: a mnemonic, then its operands, destination first (R92). -/
structure SourceLine where
  name     : SourceName
  operands : List SourceOperand
deriving DecidableEq, Repr

end Sys2Proof
end

