-- ==== Sys2Proof/WellFormed.lean ====
section
/-! DEFINITION. Which terms are well formed. A command has no check of its own: its field types admit exactly the values
the encoding admits (30_encoding.md R84: every register field names a register; R83: an immediate is 17 bits). What can
be ill formed is a source line (R92) and a host access (20_memory.md R51, R52). -/

namespace Sys2Proof

/-- The size of the register window in bytes (20_memory.md R50). -/
def windowBytes : Nat := 4096

/-- R51: an address lies in the window placed at `base`. -/
def HostAccess.inWindow (base addr : Nat) : Bool := decide (base ≤ addr) && decide (addr < base + windowBytes)

/-- R51, R52: the address an access names. -/
def HostAccess.addr : HostAccess → Nat
  | .read a _ => a
  | .write a _ _ => a

/-- R51, R52: the width of an access, in bytes. -/
def HostAccess.size : HostAccess → Nat
  | .read _ n => n
  | .write _ n _ => n

/-- R52: the access is 8 bytes wide and its offset is a multiple of 8. -/
def HostAccess.aligned (base : Nat) (a : HostAccess) : Bool :=
  decide (a.size = 8) && decide ((a.addr - base) % 8 = 0)

/-- R51: the access is part of the interface of the block placed at `base`. -/
def HostAccess.wellFormed (base : Nat) (a : HostAccess) : Bool :=
  HostAccess.inWindow base a.addr && a.aligned base

/-- R92: registers are `w0` to `w7`, and immediates lie in [0, 131071]. -/
def SourceOperand.wellFormed : SourceOperand → Bool
  | .reg r => decide (r < 8)
  | .imm v => decide (v ≤ 131071)

/-- What kind of operand stands in a place of a line. -/
inductive OperandKind where
  | reg | imm
deriving DecidableEq, Repr

def SourceOperand.kind : SourceOperand → OperandKind
  | .reg _ => .reg
  | .imm _ => .imm

/-- R92's table of operands, and R93's for the pseudo-instructions. -/
def SourceName.operandKinds : SourceName → List OperandKind
  | .command .nop => []
  | .command .li => [.reg, .imm]
  | .command .mov => [.reg, .reg]
  | .command .add => [.reg, .reg, .reg]
  | .command .mul => [.reg, .reg, .reg]
  | .command .mulll => [.reg, .reg, .reg]
  | .command .pow5 => [.reg, .reg]
  | .command .cmp => [.reg, .reg]
  | .command .fold16 => [.reg, .reg]
  | .command .fold32 => [.reg, .reg]
  | .command .fold64 => [.reg, .reg]
  | .command .build => []
  | .command .ldp => [.reg, .reg]
  | .command .lookup => [.reg, .reg]
  | .command .fprobe => [.reg]
  | .command .setcur => [.reg]
  | .clr => [.reg]
  | .sqr => [.reg, .reg]
  | .dbl => [.reg, .reg]
  | .probe => [.reg]

/-- R92: a line with the operands its mnemonic takes, each in range. The assembler rejects any other. -/
def SourceLine.wellFormed (l : SourceLine) : Bool :=
  decide (l.operands.map SourceOperand.kind = l.name.operandKinds) && l.operands.all SourceOperand.wellFormed

end Sys2Proof
end

