-- ==== Sys2Proof/Decode.lean ====
section
/-! DEFINITION. The decoder of command words (30_encoding.md R80 to R91), total on all 2^32 words (R90), rejecting by
name, and after it the encoder, written from the same tables. -/

namespace Sys2Proof

/-- The two ways a word can be ILLEGAL (R88). -/
inductive Illegal where
  /-- its opcode is reserved: 0x0B to 0x1F, 0x22 to 0x27, 0x2B to 0x3F -/
  | reservedOpcode
  /-- its opcode is assigned, but a reserved-zero bit is 1 -/
  | reservedBit
deriving DecidableEq, Repr

/-- A command word cut into its fields (R81). -/
structure Fields where
  opcode : BitVec 6
  rd     : BitVec 3
  rs1    : BitVec 3
  rs2    : BitVec 3
  imm17  : BitVec 17
deriving DecidableEq, Repr

/-- R81: opcode [31:26], rd [25:23], rs1 [22:20], rs2 [19:17], imm17 [16:0]. -/
def fieldsOf (x : CommandWord) : Fields where
  opcode := x.extractLsb' 26 6
  rd     := x.extractLsb' 23 3
  rs1    := x.extractLsb' 20 3
  rs2    := x.extractLsb' 17 3
  imm17  := x.extractLsb' 0 17

/-- R81: the word with these fields. -/
def wordOf (f : Fields) : CommandWord :=
  f.opcode ++ f.rd ++ f.rs1 ++ f.rs2 ++ f.imm17

/-- R84: a 3-bit field selects the W register of that number. -/
def regOf (field : BitVec 3) : Reg := field.toFin

/-- R84, the other way. -/
def fieldOfReg (r : Reg) : BitVec 3 := BitVec.ofFin r

/-- The opcode map of R86: the row an opcode selects, if it is assigned. -/
def mnemonicOfOpcode (op : BitVec 6) : Option Mnemonic :=
  match op with
  | 0x00#6 => some .nop
  | 0x01#6 => some .li
  | 0x02#6 => some .mov
  | 0x03#6 => some .add
  | 0x04#6 => some .mul
  | 0x05#6 => some .mulll
  | 0x06#6 => some .pow5
  | 0x07#6 => some .cmp
  | 0x08#6 => some .fold16
  | 0x09#6 => some .fold32
  | 0x0A#6 => some .fold64
  | 0x20#6 => some .build
  | 0x21#6 => some .ldp
  | 0x28#6 => some .lookup
  | 0x29#6 => some .fprobe
  | 0x2A#6 => some .setcur
  | _ => none

/-- The opcode map of R86, row to opcode. -/
def Mnemonic.opcode : Mnemonic → BitVec 6
  | .nop => 0x00#6
  | .li => 0x01#6
  | .mov => 0x02#6
  | .add => 0x03#6
  | .mul => 0x04#6
  | .mulll => 0x05#6
  | .pow5 => 0x06#6
  | .cmp => 0x07#6
  | .fold16 => 0x08#6
  | .fold32 => 0x09#6
  | .fold64 => 0x0A#6
  | .build => 0x20#6
  | .ldp => 0x21#6
  | .lookup => 0x28#6
  | .fprobe => 0x29#6
  | .setcur => 0x2A#6

/-- The format column of R86. -/
def Mnemonic.format : Mnemonic → Format
  | .nop => .f0
  | .li => .fi
  | .mov => .fr
  | .add => .frr
  | .mul => .frr
  | .mulll => .frr
  | .pow5 => .fr
  | .cmp => .fc
  | .fold16 => .fr
  | .fold32 => .fr
  | .fold64 => .fr
  | .build => .f0
  | .ldp => .fr
  | .lookup => .fr
  | .fprobe => .fs
  | .setcur => .fs

/-- The match column of R86. -/
def Mnemonic.matchBits : Mnemonic → CommandWord
  | .nop => 0x00000000#32
  | .li => 0x04000000#32
  | .mov => 0x08000000#32
  | .add => 0x0C000000#32
  | .mul => 0x10000000#32
  | .mulll => 0x14000000#32
  | .pow5 => 0x18000000#32
  | .cmp => 0x1C000000#32
  | .fold16 => 0x20000000#32
  | .fold32 => 0x24000000#32
  | .fold64 => 0x28000000#32
  | .build => 0x80000000#32
  | .ldp => 0x84000000#32
  | .lookup => 0xA0000000#32
  | .fprobe => 0xA4000000#32
  | .setcur => 0xA8000000#32

/-- The mask column of R86. -/
def Mnemonic.mask : Mnemonic → CommandWord
  | .nop => 0xFFFFFFFF#32
  | .li => 0xFC7E0000#32
  | .mov => 0xFC0FFFFF#32
  | .add => 0xFC01FFFF#32
  | .mul => 0xFC01FFFF#32
  | .mulll => 0xFC01FFFF#32
  | .pow5 => 0xFC0FFFFF#32
  | .cmp => 0xFF81FFFF#32
  | .fold16 => 0xFC0FFFFF#32
  | .fold32 => 0xFC0FFFFF#32
  | .fold64 => 0xFC0FFFFF#32
  | .build => 0xFFFFFFFF#32
  | .ldp => 0xFC0FFFFF#32
  | .lookup => 0xFC0FFFFF#32
  | .fprobe => 0xFF8FFFFF#32
  | .setcur => 0xFF8FFFFF#32

/-- R85: every field the format does not use is 0. -/
def Fields.reservedZero (f : Fields) : Format → Bool
  | .f0 => decide (f.rd = 0) && decide (f.rs1 = 0) && decide (f.rs2 = 0) && decide (f.imm17 = 0)
  | .fi => decide (f.rs1 = 0) && decide (f.rs2 = 0)
  | .fr => decide (f.rs2 = 0) && decide (f.imm17 = 0)
  | .frr => decide (f.imm17 = 0)
  | .fc => decide (f.rd = 0) && decide (f.imm17 = 0)
  | .fs => decide (f.rd = 0) && decide (f.rs2 = 0) && decide (f.imm17 = 0)

/-- R91: the command of a row, with the fields of a word. -/
def Mnemonic.instr (m : Mnemonic) (f : Fields) : Instr :=
  match m with
  | .nop => .nop
  | .li => .li (regOf f.rd) f.imm17
  | .mov => .mov (regOf f.rd) (regOf f.rs1)
  | .add => .add (regOf f.rd) (regOf f.rs1) (regOf f.rs2)
  | .mul => .mul (regOf f.rd) (regOf f.rs1) (regOf f.rs2)
  | .mulll => .mulll (regOf f.rd) (regOf f.rs1) (regOf f.rs2)
  | .pow5 => .pow5 (regOf f.rd) (regOf f.rs1)
  | .cmp => .cmp (regOf f.rs1) (regOf f.rs2)
  | .fold16 => .fold16 (regOf f.rd) (regOf f.rs1)
  | .fold32 => .fold32 (regOf f.rd) (regOf f.rs1)
  | .fold64 => .fold64 (regOf f.rd) (regOf f.rs1)
  | .build => .build
  | .ldp => .ldp (regOf f.rd) (regOf f.rs1)
  | .lookup => .lookup (regOf f.rd) (regOf f.rs1)
  | .fprobe => .fprobe (regOf f.rs1)
  | .setcur => .setcur (regOf f.rs1)

/-- R87, R88, R90: a word's command, or the name of why it is ILLEGAL. -/
def decode (x : CommandWord) : Except Illegal Instr :=
  match mnemonicOfOpcode (fieldsOf x).opcode with
  | none => .error .reservedOpcode
  | some m => if (fieldsOf x).reservedZero m.format then .ok (m.instr (fieldsOf x)) else .error .reservedBit

/-- The row of the opcode map a command belongs to. -/
def Instr.mnemonic : Instr → Mnemonic
  | .nop => .nop
  | .li _ _ => .li
  | .mov _ _ => .mov
  | .add _ _ _ => .add
  | .mul _ _ _ => .mul
  | .mulll _ _ _ => .mulll
  | .pow5 _ _ => .pow5
  | .cmp _ _ => .cmp
  | .fold16 _ _ => .fold16
  | .fold32 _ _ => .fold32
  | .fold64 _ _ => .fold64
  | .build => .build
  | .ldp _ _ => .ldp
  | .lookup _ _ => .lookup
  | .fprobe _ => .fprobe
  | .setcur _ => .setcur

/-- The operand fields of a command; those its format does not use are 0 (R82, R85). -/
def Instr.fields (i : Instr) : Fields :=
  let op := i.mnemonic.opcode
  match i with
  | .nop => ⟨op, 0, 0, 0, 0⟩
  | .li rd imm => ⟨op, fieldOfReg rd, 0, 0, imm⟩
  | .mov rd rs1 => ⟨op, fieldOfReg rd, fieldOfReg rs1, 0, 0⟩
  | .add rd rs1 rs2 => ⟨op, fieldOfReg rd, fieldOfReg rs1, fieldOfReg rs2, 0⟩
  | .mul rd rs1 rs2 => ⟨op, fieldOfReg rd, fieldOfReg rs1, fieldOfReg rs2, 0⟩
  | .mulll rd rs1 rs2 => ⟨op, fieldOfReg rd, fieldOfReg rs1, fieldOfReg rs2, 0⟩
  | .pow5 rd rs1 => ⟨op, fieldOfReg rd, fieldOfReg rs1, 0, 0⟩
  | .cmp rs1 rs2 => ⟨op, 0, fieldOfReg rs1, fieldOfReg rs2, 0⟩
  | .fold16 rd rs1 => ⟨op, fieldOfReg rd, fieldOfReg rs1, 0, 0⟩
  | .fold32 rd rs1 => ⟨op, fieldOfReg rd, fieldOfReg rs1, 0, 0⟩
  | .fold64 rd rs1 => ⟨op, fieldOfReg rd, fieldOfReg rs1, 0, 0⟩
  | .build => ⟨op, 0, 0, 0, 0⟩
  | .ldp rd rs1 => ⟨op, fieldOfReg rd, fieldOfReg rs1, 0, 0⟩
  | .lookup rd rs1 => ⟨op, fieldOfReg rd, fieldOfReg rs1, 0, 0⟩
  | .fprobe rs1 => ⟨op, 0, fieldOfReg rs1, 0, 0⟩
  | .setcur rs1 => ⟨op, 0, fieldOfReg rs1, 0, 0⟩

/-- The command word of a command (R81, R86). -/
def encode (i : Instr) : CommandWord := wordOf i.fields

/-- R53: byte `k` of a 64-bit register on a bus with byte lanes, little-endian. -/
def byteLane (v : Half) (k : Nat) : Byte := v.extractLsb' (8 * k) 8

/-- R53: the value that eight byte lanes hold together, lane 0 the least significant. -/
def ofByteLanes (b0 b1 b2 b3 b4 b5 b6 b7 : Byte) : Half :=
  b7 ++ b6 ++ b5 ++ b4 ++ b3 ++ b2 ++ b1 ++ b0

/-- R55: a CMD write offers bits [31:0]; bits [63:32] are ignored. -/
def offeredWord (v : Half) : CommandWord := v.extractLsb' 0 32

/-- The word of `nbits` bits the opcode table numbers, as the block is given it: the bits above `nbits` are 0. -/
def tableWord (nbits w : Nat) : CommandWord := BitVec.ofNat 32 (w % 2 ^ nbits)

/-- R53, R55: a command word laid out on the bus as the CMD write's byte lanes, and read back from them. -/
def offeredOnLanes (x : CommandWord) : CommandWord :=
  let v : Half := x.setWidth 64
  offeredWord (ofByteLanes (byteLane v 0) (byteLane v 1) (byteLane v 2) (byteLane v 3)
    (byteLane v 4) (byteLane v 5) (byteLane v 6) (byteLane v 7))

/-- The host's question: what the decoder reads from an instruction whose bits, numbered as the opcode table numbers
them, are `w`. -/
def decodeTableWord (nbits w : Nat) : Option Instr := (decode (offeredOnLanes (tableWord nbits w))).toOption

end Sys2Proof
end

