-- ==== Sys2Proof/Config.lean ====
section
/-! DEFINITION. What the spec leaves open: the free values, which are constants with no body, and the values the model
names for the implementation parameters at reset (00_scope.md R6). -/

namespace Sys2Proof

/-- The half of W register `reg` that nothing has written since reset number `reset` (10_state.md R22: "an unspecified
value"; 93 I1). `high` says which half. A FREE VALUE: nothing constrains it (log entry 5). -/
opaque Config.unwrittenHalf (reset reg : Nat) (high : Bool) : Half

/-- What the host's `draw`-th read of a W half, CURSOR or a counter while BUSY = 1 returns (20_memory.md R60; 93 I2:
"a 64-bit draw per read"). A FREE VALUE (log entry 14). -/
opaque Config.busyRead (draw : Nat) : Half

/-- Entry `i` of the power table where no BUILD since reset has written it (10_state.md R31; 93 I5, I6: "any value, never
observable"). A FREE VALUE (log entry 7). -/
opaque Config.unbuiltEntry (i : Nat) : Wide

/-- R6: the default of NMAX. Any value from 2 to 2^25 may stand in `State.params` (log entry 10). -/
def Config.defaultNmax : Nat := 131072

/-- R6, R63: EPX_BASE is OPEN, 4096-byte aligned; the model's State.reset places the window at 0.
DESIGN CHOICE, safe: it is a field of State, and claims hold for every value of it (log entry 10). -/
def Config.resetBase : Nat := 0

/-- R6: what the spec allows for the parameters: NMAX from 2 to 2^25, EPX_BASE a multiple of 4096. -/
def Config.legal (nmax epxBase : Nat) : Bool :=
  decide (2 ≤ nmax) && decide (nmax ≤ 2 ^ 25) && decide (epxBase % 4096 = 0)

end Sys2Proof
end

