-- ==== Sys2Proof/Machine/State.lean ====
section
/-! DEFINITION. The state of EPX128 as plain data (10_state.md), the reasons a step can stop, and the state after reset
(R43). INVENTORY.md's '## State' lists every field with its rule. -/

namespace Sys2Proof.Machine

/-- A W register (R20, R21) with the written mark of each half (R22). -/
structure WReg where
  val       : Wide
  loWritten : Bool
  hiWritten : Bool
deriving DecidableEq, Repr

/-- The stored bits of STATUS (R24). BUSY is not stored: it is 1 exactly when a command is pending (R25). -/
structure Status where
  built : Bool
  done  : Bool
  err   : Bool
  ovr   : Bool
  c     : Bool
  v     : Bool
  eq    : Bool
  lt    : Bool
  fh    : Bool
  hit   : Bool
deriving DecidableEq, Repr

/-- CONFIG.STRATEGY (R29). -/
inductive Strategy where
  | hash | scan
deriving DecidableEq, Repr

/-- The two fields of CONFIG (R29). -/
structure ConfigReg where
  width64  : Bool
  strategy : Strategy
deriving DecidableEq, Repr

/-- The two fields of IRQEN (R37). -/
structure IrqEnable where
  doneie : Bool
  errie  : Bool
deriving DecidableEq, Repr

/-- The event counters (R39). -/
structure Counters where
  cmdcnt : Half
  lkcnt  : Half
  fhcnt  : Half
  hitcnt : Half
deriving DecidableEq, Repr

/-- The cause codes of ECAUSE (60_exceptions.md R201); codes 8 to 255 are never produced (93 I11). -/
inductive Cause where
  | none | illegal | notBuilt | indexRange | cursorRange | cfgNSmall | cfgNLarge | cfgWidth
deriving DecidableEq, Repr

/-- The implementation parameters (00_scope.md R6): fixed for a machine, so no step changes them. -/
structure Params where
  nmax    : Nat
  epxBase : Nat
deriving DecidableEq, Repr

/-- Whose step is next (R5, R66): the host makes an access, the block has a turn, or the platform applies reset (R240). -/
inductive Turn where
  | host (a : HostAccess)
  | block
  | reset
deriving DecidableEq, Repr

/-- Why the machine stops with a fault. -/
inductive Fault where
  /-- Raised by a host access whose address is not in the 4096-byte window (20_memory.md R51: such an offset does not
  exist). SAFE: the machine stops where the spec gives no step. -/
  | outsideWindow
deriving DecidableEq, Repr

/-- Why a step is given no meaning. -/
inductive Refusal where
  /-- Raised by exec's arm of an instruction not modelled yet; no arm is. SAFE: the machine stops. -/
  | notModelled (mnemonic : String)
  /-- Raised by a host access that is not 8 bytes wide, or not at a multiple of 8 (20_memory.md R52; 93 I4: the host is
  stuck). SAFE: the machine stops where the spec gives no step. -/
  | hostAccessForm
deriving DecidableEq, Repr

/-- The state of EPX128, of its host port and of the model's own record keeping. -/
structure State where
  /-- W0 to W7 (R20) -/
  w : Vector WReg 8
  /-- STATUS without BUSY (R24) -/
  status : Status
  /-- CONFIG (R29) -/
  config : ConfigReg
  /-- N (R30) -/
  n : Half
  /-- PT (R31): the entries written since reset, entry 0 first; BUILD writes a first part of the array -/
  pt : List Wide
  /-- FB (R32) -/
  fb : Filter
  /-- CURSOR (R34) -/
  cursor : Half
  /-- ECAUSE (R35) -/
  ecause : Cause
  /-- EINFO (R36) -/
  einfo : Half
  /-- IRQEN (R37) -/
  irqen : IrqEnable
  /-- CMD as the host reads it (R38) -/
  cmd : Half
  /-- CMDCNT, LKCNT, FHCNT, HITCNT (R39) -/
  counters : Counters
  /-- PENDING (R40) -/
  pending : Option CommandWord
  /-- NMAX and EPX_BASE (00_scope.md R6) -/
  params : Params
  /-- the model's own: the turns still to come, in the one total order of R66; when none is left the block has its turn -/
  schedule : List Turn
  /-- the model's own: what the host's latest MemRead returned (20_memory.md R51), if it has made one -/
  hostData : Option Half
  /-- the model's own: the model fault UNWRITTEN_READ is recorded (R22, 93 I1) -/
  unwrittenRead : Bool
  /-- the model's own: how many reads have drawn any value (93 I2) -/
  draws : Nat
  /-- the model's own: how many resets have made the W registers unspecified anew (70_reset_and_hazards.md R241) -/
  resets : Nat
deriving DecidableEq, Repr

/-- R43: W0 to W7 unspecified, every half marked unwritten. The stored 0 is a DESIGN CHOICE (R241 lets a model choose any
value); no read returns it (log entry 6). -/
def WReg.reset : WReg := { val := 0, loWritten := false, hiWritten := false }

/-- R43: every stored field of STATUS is 0. -/
def Status.reset : Status where
  built := false
  done := false
  err := false
  ovr := false
  c := false
  v := false
  eq := false
  lt := false
  fh := false
  hit := false

/-- R43, with the model's own fields empty: idle, nothing scheduled. -/
def State.reset : State where
  w := Vector.replicate 8 WReg.reset
  status := Status.reset
  config := { width64 := false, strategy := .hash }
  n := 0
  pt := []
  fb := 0
  cursor := 0
  ecause := .none
  einfo := 0
  irqen := { doneie := false, errie := false }
  cmd := 0
  counters := { cmdcnt := 0, lkcnt := 0, fhcnt := 0, hitcnt := 0 }
  pending := none
  params := { nmax := Config.defaultNmax, epxBase := Config.resetBase }
  schedule := []
  hostData := none
  unwrittenRead := false
  draws := 0
  resets := 0

end Sys2Proof.Machine
end

