-- ==== Sys2Proof/Machine/Operands.lean ====
section
/-! DEFINITION. Operand forms: the halves of a 128-bit value (00_scope.md R7), the arithmetic width (40_wideinteger.md
R101), the immediate (30_encoding.md R83) and the XOR folds (R110 to R112). -/

namespace Sys2Proof.Machine

/-- R7: `lo(v) = v[63:0]`. -/
def lo (v : Wide) : Half := v.extractLsb' 0 64

/-- R7: `hi(v) = v[127:64]`. -/
def hi (v : Wide) : Half := v.extractLsb' 64 64

/-- R21: the value `{hi, lo}`. -/
def pair (h l : Half) : Wide := h ++ l

/-- R7: `zext_128(v)`. -/
def zext128 {k : Nat} (v : BitVec k) : Wide := v.setWidth 128

/-- R7: `zext_64(v)`. -/
def zext64 {k : Nat} (v : BitVec k) : Half := v.setWidth 64

/-- R7: `ONES128 = 2^128 - 1`. -/
def ones128 : Wide := BitVec.allOnes 128

/-- R101: the arithmetic width `w`. -/
def widthBits (width64 : Bool) : Nat := if width64 then 64 else 128

/-- R101: `opnd_w(v)`, as a 128-bit value. -/
def opnd (width64 : Bool) (v : Wide) : Wide := if width64 then zext128 (lo v) else v

/-- R83: LI's operand. -/
def immediate (imm17 : BitVec 17) : Wide := zext128 imm17

/-- R110: `v[127:64] xor v[63:0]`. -/
def fold64 (v : Wide) : BitVec 64 := hi v ^^^ lo v

/-- R111: the XOR of the four 32-bit words. -/
def fold32 (v : Wide) : BitVec 32 :=
  v.extractLsb' 96 32 ^^^ v.extractLsb' 64 32 ^^^ v.extractLsb' 32 32 ^^^ v.extractLsb' 0 32

/-- R112: the XOR of the eight 16-bit chunks; the filter key (42_membership.md R160). -/
def fold16 (v : Wide) : BitVec 16 :=
  [0, 1, 2, 3, 4, 5, 6, 7].foldl (fun k j => k ^^^ v.extractLsb' (16 * j) 16) 0#16

end Sys2Proof.Machine
end

