-- ==== Sys2Proof/Machine/Arith.lean ====
section
/-! DEFINITION. The results of the adder and the multipliers, as the pseudocode of 40_wideinteger.md computes them: exact
numbers, narrowed at the end. The flags of the same computations are in Flags.lean. -/

namespace Sys2Proof.Machine

/-- R105: `s0`, the exact sum of the low halves. -/
def addLow (a b : Wide) : Nat := (lo a).toNat + (lo b).toNat

/-- R105: `c64`, the carry from the low half. -/
def addCarry64 (a b : Wide) : Nat := if 2 ^ 64 ≤ addLow a b then 1 else 0

/-- R105: `s1`, the exact sum of the high halves and the carry. -/
def addHigh (a b : Wide) : Nat := (hi a).toNat + (hi b).toNat + addCarry64 a b

/-- R105: the sum modulo 2^w. -/
def addSum (width64 : Bool) (a b : Wide) : Wide :=
  if width64 then zext128 (BitVec.ofNat 64 (addLow a b))
  else pair (BitVec.ofNat 64 (addHigh a b)) (BitVec.ofNat 64 (addLow a b))

/-- R106, R107: `p0`, the exact product of the low halves. -/
def lowProduct (a b : Wide) : Nat := (lo a).toNat * (lo b).toNat

/-- R106: `p1 + p2`, the cross terms. -/
def crossProducts (a b : Wide) : Nat := (lo a).toNat * (hi b).toNat + (hi a).toNat * (lo b).toNat

/-- R106: the product modulo 2^w, high x high dropped. -/
def mulProduct (width64 : Bool) (a b : Wide) : Wide :=
  if width64 then zext128 (BitVec.ofNat 64 (lowProduct a b))
  else BitVec.ofNat 128 (lowProduct a b + crossProducts a b % 2 ^ 64 * 2 ^ 64)

/-- R107: the exact low64 x low64 product. -/
def mulLow (a b : Wide) : Wide := BitVec.ofNat 128 (lowProduct a b)

/-- R108: `times` steps `r <- (r * x0) mod 2^w`, each a MUL at width w. -/
def powerChain (width64 : Bool) (x0 : Wide) : Nat → Wide → Wide
  | 0, r => r
  | times + 1, r => powerChain width64 x0 times (mulProduct width64 r x0)

/-- R108: the fifth power by four chained multiplications. -/
def pow5 (width64 : Bool) (v : Wide) : Wide := powerChain width64 (opnd width64 v) 4 (opnd width64 v)

end Sys2Proof.Machine
end

