-- ==== Sys2Proof/Machine/Flags.lean ====
section
/-! DEFINITION. Every flag computation of the commands (10_state.md R24, R28), and STATUS as the host reads it. -/

namespace Sys2Proof.Machine

/-- C after ADD (R105): the carry out of the top bit of the width-w sum. -/
def addCarry (width64 : Bool) (a b : Wide) : Bool :=
  if width64 then decide (2 ^ 64 ≤ addLow a b) else decide (2 ^ 64 ≤ addHigh a b)

/-- V after MUL (R106): the exact product does not fit in w bits. -/
def mulOverflow (width64 : Bool) (a b : Wide) : Bool :=
  if width64 then decide (2 ^ 64 ≤ lowProduct a b) else decide (2 ^ 128 ≤ a.toNat * b.toNat)

/-- V after POW5 (R108): the exact fifth power does not fit in w bits. -/
def powOverflow (width64 : Bool) (v : Wide) : Bool :=
  decide (2 ^ widthBits width64 ≤ (opnd width64 v).toNat ^ 5)

/-- EQ after CMP (R109): equal on both halves. -/
def cmpEq (a b : Wide) : Bool := decide (hi a = hi b) && decide (lo a = lo b)

/-- LT after CMP (R109): less, unsigned, on all 128 bits. -/
def cmpLt (a b : Wide) : Bool := decide (a.toNat < b.toNat)

/-- A write of C: only ADD (R24). -/
def Status.setC (st : Status) (b : Bool) : Status := { st with c := b }

/-- A write of V: MUL, MULLL and POW5 (R24). -/
def Status.setV (st : Status) (b : Bool) : Status := { st with v := b }

/-- A write of EQ and LT: only CMP (R24). -/
def Status.setCompare (st : Status) (e l : Bool) : Status := { st with eq := e, lt := l }

/-- A write of FH: FPROBE, and LOOKUP (R24). -/
def Status.setFh (st : Status) (b : Bool) : Status := { st with fh := b }

/-- A write of HIT: only LOOKUP (R24). -/
def Status.setHit (st : Status) (b : Bool) : Status := { st with hit := b }

/-- OVR is set by a dropped host write (R24). -/
def Status.setOvr (st : Status) : Status := { st with ovr := true }

/-- BUILT is set by BUILD and cleared by a host write to CONFIG or N (R26). -/
def Status.setBuilt (st : Status) (b : Bool) : Status := { st with built := b }

/-- What every completion does to STATUS besides clearing BUSY (20_memory.md R65). -/
def Status.setDone (st : Status) : Status := { st with done := true }

/-- What an error does to STATUS besides clearing BUSY (60_exceptions.md R203). -/
def Status.setError (st : Status) : Status := { st with err := true, done := true }

/-- A host write of `v` to STATUS (20_memory.md R56): a 1 clears DONE (2), ERR (3), OVR (4). -/
def Status.writeOneToClear (st : Status) (v : Half) : Status :=
  { st with
    done := st.done && !v.getLsbD 2
    err := st.err && !v.getLsbD 3
    ovr := st.ovr && !v.getLsbD 4 }

/-- One bit of a register image. -/
def bitAt (k : Nat) (b : Bool) : Half := if b then BitVec.twoPow 64 k else 0

/-- STATUS as one 64-bit value (R24); reserved bits read 0. -/
def Status.word (busy : Bool) (st : Status) : Half :=
  bitAt 0 busy ||| bitAt 1 st.built ||| bitAt 2 st.done ||| bitAt 3 st.err ||| bitAt 4 st.ovr |||
  bitAt 8 st.c ||| bitAt 9 st.v ||| bitAt 10 st.eq ||| bitAt 11 st.lt ||| bitAt 12 st.fh ||| bitAt 13 st.hit

/-- CONFIG as the host reads it (R29). -/
def ConfigReg.word (g : ConfigReg) : Half :=
  bitAt 0 g.width64 ||| bitAt 1 (decide (g.strategy = .scan))

/-- A host write of `v` to CONFIG (20_memory.md R57); bits [63:2] are ignored. -/
def ConfigReg.ofWord (v : Half) : ConfigReg where
  width64 := v.getLsbD 0
  strategy := if v.getLsbD 1 then .scan else .hash

/-- IRQEN as the host reads it (R37). -/
def IrqEnable.word (e : IrqEnable) : Half := bitAt 0 e.doneie ||| bitAt 1 e.errie

/-- A host write of `v` to IRQEN (20_memory.md R58); bits [63:2] are ignored. -/
def IrqEnable.ofWord (v : Half) : IrqEnable where
  doneie := v.getLsbD 0
  errie := v.getLsbD 1

/-- The code of a cause in ECAUSE[7:0]; bits [63:8] read 0 (R35, R201). -/
def Cause.code : Cause → Half
  | .none => 0
  | .illegal => 1
  | .notBuilt => 2
  | .indexRange => 3
  | .cursorRange => 4
  | .cfgNSmall => 5
  | .cfgNLarge => 6
  | .cfgWidth => 7

end Sys2Proof.Machine
end

