-- ==== Sys2Proof/Machine/Ops.lean ====
section
/-! DEFINITION. The named operations over the registers and the tables, every one that a command or a host access is
built from: reading and writing a W register (10_state.md R20 to R22), PT and FB (R31 to R33), the counters (R39),
completing a command (20_memory.md R65), raising an error (60_exceptions.md R203) and reset (70_reset_and_hazards.md
R240). An error is this machine's exception; recovering from one is the host's write of STATUS (R210). -/

namespace Sys2Proof.Machine

/-! ### Status bits computed from other state -/

/-- STATUS.BUSY (R25): a command is pending. -/
def State.busy (s : State) : Bool := s.pending.isSome

/-- STATUS as the host reads it (R24). -/
def State.statusWord (s : State) : Half := s.status.word s.busy

/-- The interrupt output (60_exceptions.md R215). -/
def State.irq (s : State) : Bool := (s.status.done && s.irqen.doneie) || (s.status.err && s.irqen.errie)

/-- A write of fields of STATUS. -/
def State.updStatus (s : State) (f : Status → Status) : State := { s with status := f s.status }

/-- A write of event counters. -/
def State.updCounters (s : State) (f : Counters → Counters) : State := { s with counters := f s.counters }

/-! ### W registers -/

/-- R22: both halves of W register `r` have been written since reset. -/
def State.written (s : State) (r : Reg) : Bool := s.w[r.val].loWritten && s.w[r.val].hiWritten

/-- What the low half of W register `r` holds; a free value if it was never written (R22). -/
def State.loHalf (s : State) (r : Reg) : Half :=
  if s.w[r.val].loWritten then lo s.w[r.val].val else Config.unwrittenHalf s.resets r.val false

/-- What the high half of W register `r` holds; a free value if it was never written (R22). -/
def State.hiHalf (s : State) (r : Reg) : Half :=
  if s.w[r.val].hiWritten then hi s.w[r.val].val else Config.unwrittenHalf s.resets r.val true

/-- R8: `x[r]`, all 128 bits. -/
def State.x (s : State) (r : Reg) : Wide := pair (s.hiHalf r) (s.loHalf r)

/-- R22, 93 I1: a read of a half records the model fault UNWRITTEN_READ if its mark says unwritten. -/
def State.noteHalf (s : State) (writtenMark : Bool) : State :=
  { s with unwrittenRead := s.unwrittenRead || !writtenMark }

/-- R22: the evaluation of `x[r]` reads all 128 bits, and records UNWRITTEN_READ if either half is unwritten. -/
def State.noteRead (s : State) (r : Reg) : State := s.noteHalf (s.written r)

/-- R8: `x[r] <- v`. Every command that writes rd writes all 128 bits (R255). -/
def State.setW (s : State) (r : Reg) (v : Wide) : State :=
  { s with w := s.w.set r.val { val := v, loWritten := true, hiWritten := true } }

/-- 20_memory.md R58: a host write of Wi.LO. -/
def State.setLo (s : State) (r : Reg) (v : Half) : State :=
  { s with w := s.w.set r.val { s.w[r.val] with val := pair (hi s.w[r.val].val) v, loWritten := true } }

/-- 20_memory.md R58: a host write of Wi.HI. -/
def State.setHi (s : State) (r : Reg) (v : Half) : State :=
  { s with w := s.w.set r.val { s.w[r.val] with val := pair v (lo s.w[r.val].val), hiWritten := true } }

/-! ### The power table and the filter -/

/-- R31: `PT[i]`; an entry no BUILD has written is a free value. -/
def State.ptRead (s : State) (i : Nat) : Wide := s.pt.getD i (Config.unbuiltEntry i)

/-- `count` entries of the array from index `i` on, where `written` is the part of the array from `i` on that has been
written. -/
def tableFrom : List Wide → Nat → Nat → List Wide
  | _, _, 0 => []
  | [], i, count + 1 => Config.unbuiltEntry i :: tableFrom [] (i + 1) count
  | e :: written, i, count + 1 => e :: tableFrom written (i + 1) count

/-- R31: the entries a lookup examines, `PT[0]` to `PT[N-1]`. -/
def State.entries (s : State) : List Wide := tableFrom s.pt 0 s.n.toNat

/-- R32: `FB[k]`. -/
def filterBit (fb : Filter) (key : BitVec 16) : Bool := fb.getLsbD key.toNat

/-- R32: `FB[k] <- 1`. -/
def filterInsert (fb : Filter) (key : BitVec 16) : Filter := fb ||| BitVec.twoPow 65536 key.toNat

/-- The array PT has NMAX entries (R31): no more than that are ever written. -/
def State.tableWf (s : State) : Bool := decide (s.pt.length ≤ s.params.nmax)

/-- R34: `CURSOR <- v`. -/
def State.setCursor (s : State) (v : Half) : State := { s with cursor := v }

/-- A write of the tables: PT and FB (only BUILD makes one, R31, R32). -/
def State.setTables (s : State) (pt : List Wide) (fb : Filter) : State := { s with pt := pt, fb := fb }

/-! ### Counters -/

/-- R65: `CMDCNT <- (CMDCNT + 1) mod 2^64`. -/
def Counters.countCommand (k : Counters) : Counters := { k with cmdcnt := k.cmdcnt + 1 }

/-- R161: `LKCNT <- (LKCNT + 1) mod 2^64`. -/
def Counters.countLookup (k : Counters) : Counters := { k with lkcnt := k.lkcnt + 1 }

/-- R161: `FHCNT <- (FHCNT + 1) mod 2^64`. -/
def Counters.countFilterHit (k : Counters) : Counters := { k with fhcnt := k.fhcnt + 1 }

/-- R161: `HITCNT <- (HITCNT + 1) mod 2^64`. -/
def Counters.countHit (k : Counters) : Counters := { k with hitcnt := k.hitcnt + 1 }

/-! ### Completing a command, and raising an error -/

/-- R65: the word of the command being completed, `PENDING`. With none pending, which no step of the block meets, the
last accepted word (log entry 16). -/
def State.word (s : State) : CommandWord := s.pending.getD (offeredWord s.cmd)

/-- R65: the completion of a command without error. -/
def State.succeed (s : State) : State :=
  { s with
    counters := s.counters.countCommand
    pending := none
    status := s.status.setDone }

/-- R203: the completion of a command by `raise Error(cause)`. -/
def State.raiseError (s : State) (cause : Cause) : State :=
  { s with
    ecause := cause
    einfo := zext64 s.word
    pending := none
    status := s.status.setError }

/-! ### The host port -/

/-- R64: a command word is accepted. -/
def State.accept (s : State) (word : CommandWord) : State :=
  { s with pending := some word, cmd := zext64 word }

/-- R57: what a write of CONFIG or N does besides. -/
def State.unbuild (s : State) : State := (s.updStatus (·.setBuilt false)).setCursor 0

/-- R57: a host write of CONFIG. -/
def State.setConfig (s : State) (v : Half) : State := ({ s with config := ConfigReg.ofWord v } : State).unbuild

/-- R57: a host write of N. -/
def State.setN (s : State) (v : Half) : State := ({ s with n := v } : State).unbuild

/-- R58: a host write of IRQEN. -/
def State.setIrqen (s : State) (v : Half) : State := { s with irqen := IrqEnable.ofWord v }

/-- R60, R64: a host write is dropped. -/
def State.drop (s : State) : State := s.updStatus Status.setOvr

/-- R51: a MemRead returns `v` to the host. -/
def State.deliver (s : State) (v : Half) : State := { s with hostData := some v }

/-- 93 I2: a MemRead returns any value, a fresh one each time. -/
def State.deliverAny (s : State) : State :=
  { s with hostData := some (Config.busyRead s.draws), draws := s.draws + 1 }

/-! ### Reset -/

/-- R240, R43: the reset step. The parameters, the turns to come and the model's records are not the block's state
(log entry 17); the W values become unspecified anew (R241). -/
def State.platformReset (s : State) : State :=
  { State.reset with
    params := s.params
    schedule := s.schedule
    hostData := s.hostData
    unwrittenRead := s.unwrittenRead
    draws := s.draws
    resets := s.resets + 1 }

end Sys2Proof.Machine
end

