-- ==== Sys2Proof/Machine/Membership.lean ====
section
/-! DEFINITION. The MembershipIndex commands LOOKUP, FPROBE and SETCUR (42_membership.md R160 to R170). -/

namespace Sys2Proof.Machine

/-- 10_state.md R33, IDX: the smallest index, counted from `i`, of an entry equal to `v`. -/
def findBase : List Wide → Wide → Nat → Option Nat
  | [], _, _ => none
  | e :: rest, v, i => if e = v then some i else findBase rest v (i + 1)

/-- R161: the range scan over the entries from the cursor `c` on: where it stops. -/
def scanStop : List Wide → Wide → Nat → Nat
  | [], _, c => c
  | e :: rest, v, c => if e.toNat < v.toNat then scanStop rest v (c + 1) else c

/-- What the confirmation stage answers: the base found, and CURSOR after it. -/
structure Confirmation where
  base   : Option Nat
  cursor : Half
deriving DecidableEq, Repr

/-- R161, STRATEGY = HASH: the keyed lookup; CURSOR stays. -/
def confirmHash (s : State) (v : Wide) : Confirmation :=
  { base := findBase s.entries v 0, cursor := s.cursor }

/-- R161, STRATEGY = SCAN: the scan from CURSOR to the first entry not below `v`. -/
def confirmScan (s : State) (v : Wide) : Confirmation :=
  let c := scanStop (s.entries.drop s.cursor.toNat) v s.cursor.toNat
  { base := if s.entries[c]? = some v then some c else none
    cursor := BitVec.ofNat 64 c }

/-- R161: the confirmation stage. -/
def confirm (s : State) (v : Wide) : Confirmation :=
  match s.config.strategy with
  | .hash => confirmHash s v
  | .scan => confirmScan s v

/-- R160: the filter stage, `FB[key(v)]`. -/
def State.probe (s : State) (v : Wide) : Bool := filterBit s.fb (fold16 v)

/-- R161: LOOKUP when the filter rejects `v`. -/
def lookupRejected (rd : Reg) (s : State) : State :=
  (s.updStatus (fun st => (st.setFh false).setHit false)).setW rd ones128

/-- R161: LOOKUP when the filter passes `v`, with the confirmation's answer. -/
def lookupConfirmed (rd : Reg) (s : State) (answer : Confirmation) : State :=
  let t := ((s.updCounters Counters.countFilterHit).updStatus (·.setFh true)).setCursor answer.cursor
  match answer.base with
  | none => (t.updStatus (·.setHit false)).setW rd ones128
  | some j => ((t.updStatus (·.setHit true)).updCounters Counters.countHit).setW rd (BitVec.ofNat 128 j)

/-- LOOKUP (R161): the membership test, with the base in rd or ONES128. -/
def execLookup (rd rs1 : Reg) (s : State) : Host.Outcome State Fault Refusal :=
  if s.status.built = false then .next (s.raiseError .notBuilt)
  else
    let v := s.x rs1
    let t := (s.noteRead rs1).updCounters Counters.countLookup
    if s.probe v = false then .next (lookupRejected rd t).succeed
    else .next (lookupConfirmed rd t (confirm s v)).succeed

/-- FPROBE (R165): the filter stage by itself. -/
def execFprobe (rs1 : Reg) (s : State) : Host.Outcome State Fault Refusal :=
  if s.status.built = false then .next (s.raiseError .notBuilt)
  else .next ((s.noteRead rs1).updStatus (·.setFh (s.probe (s.x rs1)))).succeed

/-- SETCUR (R170): `CURSOR <- x[rs1]`, after the checks of BUILT and of the range. -/
def execSetcur (rs1 : Reg) (s : State) : Host.Outcome State Fault Refusal :=
  if s.status.built = false then .next (s.raiseError .notBuilt)
  else if s.n.toNat < (s.x rs1).toNat then .next ((s.noteRead rs1).raiseError .cursorRange)
  else .next ((s.noteRead rs1).setCursor (BitVec.ofNat 64 (s.x rs1).toNat)).succeed

end Sys2Proof.Machine
end

