-- ==== Sys2Proof/Machine/PowerTable.lean ====
section
/-! DEFINITION. The PowerTable commands BUILD and LDP (41_powertable.md R140 to R142). -/

namespace Sys2Proof.Machine

/-- R141: BUILD's configuration checks, in their order; the first that fails is the error. -/
def buildCheck (nmax n : Nat) (width64 : Bool) : Option Cause :=
  if n ≤ 1 then some .cfgNSmall
  else if nmax < n then some .cfgNLarge
  else if width64 = true ∧ 2 ^ 64 - 1 < (n - 1) ^ 5 then some .cfgWidth
  else none

/-- R140: `POW5_w(i)`, what BUILD writes to `PT[i]`. -/
def tableEntry (width64 : Bool) (i : Nat) : Wide := pow5 width64 (BitVec.ofNat 128 i)

/-- R140: PT after BUILD writes its first `n` entries; entries from `n` on keep what they held (93 I5). -/
def builtTable (width64 : Bool) (n : Nat) (old : List Wide) : List Wide :=
  (List.range n).map (tableEntry width64) ++ old.drop n

/-- R140: FB after BUILD clears it and sets the bit of every entry's key. -/
def builtFilter (width64 : Bool) (n : Nat) : Filter :=
  (List.range n).foldl (fun fb i => filterInsert fb (fold16 (tableEntry width64 i))) 0

/-- BUILD (R140): check, then build PT and FB, `CURSOR <- 0`, `BUILT <- 1`. -/
def execBuild (s : State) : Host.Outcome State Fault Refusal :=
  match buildCheck s.params.nmax s.n.toNat s.config.width64 with
  | some cause => .next (s.raiseError cause)
  | none =>
    let t := s.setTables (builtTable s.config.width64 s.n.toNat s.pt) (builtFilter s.config.width64 s.n.toNat)
    .next ((t.setCursor 0).updStatus (·.setBuilt true)).succeed

/-- LDP (R142): `x[rd] <- PT[x[rs1]]`, after the checks of BUILT and of the index. -/
def execLdp (rd rs1 : Reg) (s : State) : Host.Outcome State Fault Refusal :=
  if s.status.built = false then .next (s.raiseError .notBuilt)
  else if s.n.toNat ≤ (s.x rs1).toNat then .next ((s.noteRead rs1).raiseError .indexRange)
  else .next ((s.noteRead rs1).setW rd (s.ptRead (s.x rs1).toNat)).succeed

end Sys2Proof.Machine
end

