-- ==== Sys2Proof/Machine/WideInteger.lean ====
section
/-! DEFINITION. The WideInteger commands (40_wideinteger.md R102 to R112). None needs BUILT and none raises an error; each
reads its sources, writes rd and its flags, and completes (20_memory.md R65). -/

namespace Sys2Proof.Machine

/-- NOP (R104). -/
def execNop (s : State) : Host.Outcome State Fault Refusal := .next s.succeed

/-- LI (R102): `x[rd] <- zext_128(imm17)`. -/
def execLi (rd : Reg) (imm17 : BitVec 17) (s : State) : Host.Outcome State Fault Refusal :=
  .next (s.setW rd (immediate imm17)).succeed

/-- MOV (R103): `x[rd] <- x[rs1]`. -/
def execMov (rd rs1 : Reg) (s : State) : Host.Outcome State Fault Refusal :=
  .next ((s.noteRead rs1).setW rd (s.x rs1)).succeed

/-- ADD (R105): the sum modulo 2^w, and C. -/
def execAdd (rd rs1 rs2 : Reg) (s : State) : Host.Outcome State Fault Refusal :=
  let a := s.x rs1
  let b := s.x rs2
  let t := ((s.noteRead rs1).noteRead rs2).setW rd (addSum s.config.width64 a b)
  .next (t.updStatus (·.setC (addCarry s.config.width64 a b))).succeed

/-- MUL (R106): the product modulo 2^w, and V. -/
def execMul (rd rs1 rs2 : Reg) (s : State) : Host.Outcome State Fault Refusal :=
  let a := s.x rs1
  let b := s.x rs2
  let t := ((s.noteRead rs1).noteRead rs2).setW rd (mulProduct s.config.width64 a b)
  .next (t.updStatus (·.setV (mulOverflow s.config.width64 a b))).succeed

/-- MULLL (R107): the exact low64 x low64 product; V is cleared. -/
def execMulll (rd rs1 rs2 : Reg) (s : State) : Host.Outcome State Fault Refusal :=
  let t := ((s.noteRead rs1).noteRead rs2).setW rd (mulLow (s.x rs1) (s.x rs2))
  .next (t.updStatus (·.setV false)).succeed

/-- POW5 (R108): the fifth power modulo 2^w, and V. -/
def execPow5 (rd rs1 : Reg) (s : State) : Host.Outcome State Fault Refusal :=
  let v := s.x rs1
  let t := (s.noteRead rs1).setW rd (pow5 s.config.width64 v)
  .next (t.updStatus (·.setV (powOverflow s.config.width64 v))).succeed

/-- CMP (R109): EQ and LT; no register is written. -/
def execCmp (rs1 rs2 : Reg) (s : State) : Host.Outcome State Fault Refusal :=
  let a := s.x rs1
  let b := s.x rs2
  .next (((s.noteRead rs1).noteRead rs2).updStatus (·.setCompare (cmpEq a b) (cmpLt a b))).succeed

/-- FOLD16 (R112). -/
def execFold16 (rd rs1 : Reg) (s : State) : Host.Outcome State Fault Refusal :=
  .next ((s.noteRead rs1).setW rd (zext128 (fold16 (s.x rs1)))).succeed

/-- FOLD32 (R111). -/
def execFold32 (rd rs1 : Reg) (s : State) : Host.Outcome State Fault Refusal :=
  .next ((s.noteRead rs1).setW rd (zext128 (fold32 (s.x rs1)))).succeed

/-- FOLD64 (R110). -/
def execFold64 (rd rs1 : Reg) (s : State) : Host.Outcome State Fault Refusal :=
  .next ((s.noteRead rs1).setW rd (zext128 (fold64 (s.x rs1)))).succeed

end Sys2Proof.Machine
end

