-- ==== Sys2Proof/Machine/Dispatch.lean ====
section
/-! DEFINITION. The dispatch of 30_encoding.md R91: one arm per command, each one direct call of its meaning. -/

namespace Sys2Proof.Machine

def exec (i : Instr) (s : State) : Host.Outcome State Fault Refusal :=
  match i with
  | .nop => Sys2Proof.Machine.execNop s
  | .li rd imm17 => Sys2Proof.Machine.execLi rd imm17 s
  | .mov rd rs1 => Sys2Proof.Machine.execMov rd rs1 s
  | .add rd rs1 rs2 => Sys2Proof.Machine.execAdd rd rs1 rs2 s
  | .mul rd rs1 rs2 => Sys2Proof.Machine.execMul rd rs1 rs2 s
  | .mulll rd rs1 rs2 => Sys2Proof.Machine.execMulll rd rs1 rs2 s
  | .pow5 rd rs1 => Sys2Proof.Machine.execPow5 rd rs1 s
  | .cmp rs1 rs2 => Sys2Proof.Machine.execCmp rs1 rs2 s
  | .fold16 rd rs1 => Sys2Proof.Machine.execFold16 rd rs1 s
  | .fold32 rd rs1 => Sys2Proof.Machine.execFold32 rd rs1 s
  | .fold64 rd rs1 => Sys2Proof.Machine.execFold64 rd rs1 s
  | .build => Sys2Proof.Machine.execBuild s
  | .ldp rd rs1 => Sys2Proof.Machine.execLdp rd rs1 s
  | .lookup rd rs1 => Sys2Proof.Machine.execLookup rd rs1 s
  | .fprobe rs1 => Sys2Proof.Machine.execFprobe rs1 s
  | .setcur rs1 => Sys2Proof.Machine.execSetcur rs1 s

end Sys2Proof.Machine
end

