-- ==== Sys2Proof/Machine/HostPort.lean ====
section
/-! DEFINITION. The host's accesses of the register window (20_memory.md R50 to R64). -/

namespace Sys2Proof.Machine

/-- The register map (R54): the register at a byte offset of the window. -/
def hostRegAt (off : Nat) : HostReg :=
  if off = 0x000 then .cmd
  else if off = 0x008 then .status
  else if off = 0x010 then .ecause
  else if off = 0x018 then .einfo
  else if off = 0x020 then .config
  else if off = 0x028 then .n
  else if off = 0x030 then .cursor
  else if off = 0x038 then .irqen
  else if off = 0x040 then .cmdcnt
  else if off = 0x048 then .lkcnt
  else if off = 0x050 then .fhcnt
  else if off = 0x058 then .hitcnt
  else if 0x080 ≤ off ∧ off < 0x100 then
    let r : Reg := Fin.ofNat 8 ((off - 0x080) / 16)
    if off % 16 = 0 then .wLo r else .wHi r
  else .reserved

/-- R60: while BUSY, a read of this register may return any value. -/
def drawnWhileBusy : HostReg → Bool
  | .wLo _ | .wHi _ | .cursor | .cmdcnt | .lkcnt | .fhcnt | .hitcnt => true
  | .cmd | .status | .ecause | .einfo | .config | .n | .irqen | .reserved => false

/-- R60: while BUSY, a write of this register is dropped, with OVR set. -/
def droppedWhileBusy : HostReg → Bool
  | .cmd | .config | .n | .wLo _ | .wHi _ | .cmdcnt | .lkcnt | .fhcnt | .hitcnt => true
  | .status | .ecause | .einfo | .cursor | .irqen | .reserved => false

/-- R59: a register's current value, reserved bits 0. -/
def State.hostValue (s : State) : HostReg → Half
  | .cmd => s.cmd
  | .status => s.statusWord
  | .ecause => s.ecause.code
  | .einfo => s.einfo
  | .config => s.config.word
  | .n => s.n
  | .cursor => s.cursor
  | .irqen => s.irqen.word
  | .cmdcnt => s.counters.cmdcnt
  | .lkcnt => s.counters.lkcnt
  | .fhcnt => s.counters.fhcnt
  | .hitcnt => s.counters.hitcnt
  | .wLo r => s.loHalf r
  | .wHi r => s.hiHalf r
  | .reserved => 0

/-- R22, R59: the host's read of a W half marked unwritten records UNWRITTEN_READ. -/
def State.noteHostRead (s : State) : HostReg → State
  | .wLo r => s.noteHalf s.w[r.val].loWritten
  | .wHi r => s.noteHalf s.w[r.val].hiWritten
  | .cmd | .status | .ecause | .einfo | .config | .n | .cursor | .irqen
  | .cmdcnt | .lkcnt | .fhcnt | .hitcnt | .reserved => s

/-- R59, R60: `MemRead` of a register of the window. -/
def hostRead (g : HostReg) (s : State) : State :=
  if s.busy && drawnWhileBusy g then (s.noteHostRead g).deliverAny
  else (s.noteHostRead g).deliver (s.hostValue g)

/-- R55 to R58, R64: `MemWrite` of `v` to a register of the window, when nothing stops it. -/
def hostWriteThrough (g : HostReg) (v : Half) (s : State) : State :=
  match g with
  | .cmd => if s.status.err then s.drop else s.accept (offeredWord v)
  | .status => s.updStatus (·.writeOneToClear v)
  | .config => s.setConfig v
  | .n => s.setN v
  | .irqen => s.setIrqen v
  | .cmdcnt => s.updCounters ({ · with cmdcnt := v })
  | .lkcnt => s.updCounters ({ · with lkcnt := v })
  | .fhcnt => s.updCounters ({ · with fhcnt := v })
  | .hitcnt => s.updCounters ({ · with hitcnt := v })
  | .wLo r => s.setLo r v
  | .wHi r => s.setHi r v
  | .ecause => s
  | .einfo => s
  | .cursor => s
  | .reserved => s

/-- R60, R64: `MemWrite` of `v` to a register of the window, BUSY or not. -/
def hostWrite (g : HostReg) (v : Half) (s : State) : State :=
  if s.busy && droppedWhileBusy g then s.drop else hostWriteThrough g v s

/-- R51: an access that is part of the interface. -/
def hostAccess (a : HostAccess) (s : State) : State :=
  match a with
  | .read addr _ => hostRead (hostRegAt (addr - s.params.epxBase)) s
  | .write addr _ v => hostWrite (hostRegAt (addr - s.params.epxBase)) v s

/-- R51, R52: the host's step. An address outside the window does not exist; an access that is not 8 bytes wide and
8-byte aligned has no step (93 I4). -/
def hostStep (a : HostAccess) (s : State) : Host.Outcome State Fault Refusal :=
  if HostAccess.inWindow s.params.epxBase a.addr = false then .fault .outsideWindow
  else if a.aligned s.params.epxBase = false then .refused .hostAccessForm
  else .next (hostAccess a s)

end Sys2Proof.Machine
end

