-- ==== Sys2Proof/Machine/Block.lean ====
section
/-! DEFINITION. The block's step, completion (20_memory.md R65), with decoding and dispatch (30_encoding.md R91), and
whose turn a step is (00_scope.md R5). -/

namespace Sys2Proof.Machine

/-- R65: the word to execute, if one is pending. The block fetches no instruction (R23, R69). -/
def State.fetch (s : State) : Option CommandWord := s.pending

/-- R91, R65: complete the command `word`. An ILLEGAL word ends in the error ILLEGAL (R88). -/
def complete (word : CommandWord) (s : State) : Host.Outcome State Fault Refusal :=
  match decode word with
  | .error _ => .next (s.raiseError .illegal)
  | .ok i => exec i s

/-- R65: the block's turn. It has no step unless a command is pending; an idle block stays as it is (log entry 2). -/
def blockStep (s : State) : Host.Outcome State Fault Refusal :=
  match s.fetch with
  | none => .next s
  | some word => complete word s

/-- R5, R66, R240: the step of the agent whose turn it is. -/
def turnStep (t : Turn) (s : State) : Host.Outcome State Fault Refusal :=
  match t with
  | .host a => hostStep a s
  | .block => blockStep s
  | .reset => .next s.platformReset

/-- The turn that is next: the schedule's first, or the block's when none is left (R262, log entry 1). -/
def State.turn (s : State) : Turn := s.schedule.headD .block

/-- The state with that turn taken from the schedule. -/
def State.afterTurn (s : State) : State := { s with schedule := s.schedule.tail }

/-- A command word placed where the block's next step executes it: pending, as an accepted CMD write leaves it (R64), and
with the block's turn next (log entry 3). -/
def State.placeWord (s : State) (word : CommandWord) : State :=
  { s.accept word with schedule := .block :: s.schedule }

end Sys2Proof.Machine
end

