-- ==== Sys2Proof/Machine/Step.lean ====
section
/-! DEFINITION. One step of the machine, and the placing of a command word for it. -/

namespace Sys2Proof.Machine

/-- One step: the agent whose turn it is moves. -/
def step (s : State) : Host.Outcome State Fault Refusal := turnStep s.turn s.afterTurn

/-- The host's question: `s` with the opcode table's instruction word where `step` executes it next. -/
def State.withFetchWord (s : State) (nbits w : Nat) : State := s.placeWord (offeredOnLanes (tableWord nbits w))

end Sys2Proof.Machine
end

