-- ==== Sys2Proof/Machine/Assembler.lean ====
section
/-! DEFINITION. The assembler syntax of 30_encoding.md R92 and the pseudo-instructions of R93: a line of text to a source
line, and a source line to the one command it stands for. -/

namespace Sys2Proof.Machine

/-! ### From a source line to a command -/

/-- A register operand's register, if there is one (R92: `w0` to `w7`). -/
def SourceOperand.asReg : SourceOperand → Option Reg
  | .reg r => if h : r < 8 then some ⟨r, h⟩ else none
  | .imm _ => none

/-- An immediate operand's value, if it lies in [0, 131071] (R92). -/
def SourceOperand.asImm : SourceOperand → Option (BitVec 17)
  | .reg _ => none
  | .imm v => if v ≤ 131071 then some (BitVec.ofNat 17 v) else none

/-- Operands `wd`. -/
def oneReg (make : Reg → Instr) : List SourceOperand → Option Instr
  | [a] => (SourceOperand.asReg a).map make
  | _ => none

/-- Operands `wd, ws1`. -/
def twoRegs (make : Reg → Reg → Instr) : List SourceOperand → Option Instr
  | [a, b] => do return make (← SourceOperand.asReg a) (← SourceOperand.asReg b)
  | _ => none

/-- Operands `wd, ws1, ws2`. -/
def threeRegs (make : Reg → Reg → Reg → Instr) : List SourceOperand → Option Instr
  | [a, b, c] => do
    return make (← SourceOperand.asReg a) (← SourceOperand.asReg b) (← SourceOperand.asReg c)
  | _ => none

/-- Operands `wd, imm17`. -/
def regImm (make : Reg → BitVec 17 → Instr) : List SourceOperand → Option Instr
  | [a, b] => do return make (← SourceOperand.asReg a) (← SourceOperand.asImm b)
  | _ => none

/-- No operands. -/
def noOperands (i : Instr) : List SourceOperand → Option Instr
  | [] => some i
  | _ => none

/-- R92, R93: the one command a source line stands for; `none` where the assembler rejects it. -/
def assemble (l : SourceLine) : Option Instr :=
  match l.name with
  | .command .nop => noOperands .nop l.operands
  | .command .li => regImm .li l.operands
  | .command .mov => twoRegs .mov l.operands
  | .command .add => threeRegs .add l.operands
  | .command .mul => threeRegs .mul l.operands
  | .command .mulll => threeRegs .mulll l.operands
  | .command .pow5 => twoRegs .pow5 l.operands
  | .command .cmp => twoRegs .cmp l.operands
  | .command .fold16 => twoRegs .fold16 l.operands
  | .command .fold32 => twoRegs .fold32 l.operands
  | .command .fold64 => twoRegs .fold64 l.operands
  | .command .build => noOperands .build l.operands
  | .command .ldp => twoRegs .ldp l.operands
  | .command .lookup => twoRegs .lookup l.operands
  | .command .fprobe => oneReg .fprobe l.operands
  | .command .setcur => oneReg .setcur l.operands
  | .clr => oneReg (fun rd => .li rd 0) l.operands
  | .sqr => twoRegs (fun rd rs => .mul rd rs rs) l.operands
  | .dbl => twoRegs (fun rd rs => .add rd rs rs) l.operands
  | .probe => oneReg .fprobe l.operands

/-! ### From text to a source line -/

/-- A space or a tab. -/
def isBlank (c : Char) : Bool := c = ' ' || c = '\t'

/-- R92: `;` starts a comment. -/
def withoutComment (line : List Char) : List Char := line.takeWhile (· ≠ ';')

/-- The text without the blanks around it. -/
def trimBlanks (text : List Char) : List Char :=
  ((text.dropWhile isBlank).reverse.dropWhile isBlank).reverse

/-- The text cut at commas. -/
def cutAtCommas : List Char → List (List Char)
  | [] => [[]]
  | c :: rest =>
    match cutAtCommas rest with
    | [] => [[c]]
    | field :: fields => if c = ',' then [] :: field :: fields else (c :: field) :: fields

/-- A digit's value in the given base (10 or 16). -/
def digitValue (base : Nat) (c : Char) : Option Nat :=
  let n := c.toNat
  let v := if 48 ≤ n ∧ n ≤ 57 then some (n - 48)
    else if 97 ≤ n ∧ n ≤ 102 then some (n - 87)
    else if 65 ≤ n ∧ n ≤ 70 then some (n - 55)
    else none
  v.filter (· < base)

/-- The value of digits, most significant first, on top of `acc`. -/
def digitsValue (base : Nat) : List Char → Nat → Option Nat
  | [], acc => some acc
  | c :: rest, acc => (digitValue base c).bind fun d => digitsValue base rest (acc * base + d)

/-- R92: an immediate in decimal, or in hexadecimal with `0x`. -/
def parseNumber : List Char → Option Nat
  | [] => none
  | ['0', 'x'] => none
  | '0' :: 'x' :: digits => digitsValue 16 digits 0
  | digits => digitsValue 10 digits 0

/-- R92: a register `w0` to `w7`, or an immediate. -/
def parseOperand : List Char → Option SourceOperand
  | ['w', d] => (digitValue 10 d).map .reg
  | text => (parseNumber text).map .imm

/-- R92's and R93's mnemonics. -/
def mnemonicTable : List (List Char × SourceName) :=
  [("nop".toList, .command .nop), ("li".toList, .command .li), ("mov".toList, .command .mov),
   ("add".toList, .command .add), ("mul".toList, .command .mul), ("mulll".toList, .command .mulll),
   ("pow5".toList, .command .pow5), ("cmp".toList, .command .cmp), ("fold16".toList, .command .fold16)] ++
  [("fold32".toList, .command .fold32), ("fold64".toList, .command .fold64), ("build".toList, .command .build),
   ("ldp".toList, .command .ldp), ("lookup".toList, .command .lookup), ("fprobe".toList, .command .fprobe),
   ("setcur".toList, .command .setcur)] ++
  [("clr".toList, .clr), ("sqr".toList, .sqr), ("dbl".toList, .dbl), ("probe".toList, .probe)]

/-- R92: mnemonics are case-insensitive. -/
def parseMnemonic (text : List Char) : Option SourceName := mnemonicTable.lookup (text.map Char.toLower)

/-- The operands of a line, between its mnemonic and its comment. -/
def parseOperands (text : List Char) : Option (List SourceOperand) :=
  if trimBlanks text = [] then some []
  else ((cutAtCommas text).map trimBlanks).mapM parseOperand

/-- R92: a line of assembler text; `none` where the assembler rejects it. -/
def parseLine (line : List Char) : Option SourceLine :=
  let text := trimBlanks (withoutComment line)
  let name := text.takeWhile (fun c => !isBlank c)
  do return { name := ← parseMnemonic name, operands := ← parseOperands (text.drop name.length) }

/-- R92: the command a line of assembler text stands for. -/
def assembleText (line : String) : Option Instr := (parseLine line.toList).bind assemble

end Sys2Proof.Machine
end

