-- ==== Sys2Proof/Safety.lean ====
section
/-! DEFINITION. What counts as a safe run (70_reset_and_hazards.md R264, R265), the invariants of 10_state.md R42, and the
predicates that claims use to say what a command did and what it left alone. -/

namespace Sys2Proof.Machine

/-! ### The end of a run (R264) -/

/-- The turn is a host access. -/
def Turn.isHost : Turn → Bool
  | .host _ => true
  | .block => false
  | .reset => false

/-- R264: the host program has no further access to make. Turns of the block or the platform may still come (log entry 22). -/
def State.hostDone (s : State) : Bool := s.schedule.all (fun u => !u.isHost)

/-- R264: what the state a run ends in satisfies: no further host access, and PENDING = NONE. -/
def State.AtEnd (s : State) : Prop := s.hostDone = true ∧ s.pending = none

/-- R264: the run from `s` ends in `t`, the first such state it comes to. A run in which the host is stuck comes to none. -/
def State.RunEndsAt (s t : State) : Prop :=
  ∃ k, Host.Core.run Sys2Proof.core k s = .next t ∧ t.AtEnd ∧
    ∀ j u, j < k → Host.Core.run Sys2Proof.core j s = .next u → ¬ u.AtEnd

/-- R264: a state a run may validly end in: no model fault is recorded in it. -/
def State.ValidEnd (s : State) : Prop := s.AtEnd ∧ s.unwrittenRead = false

/-- What the end of a run says of one W register: a half that was never written is not said (R264). -/
structure WResult where
  lo : Option Half
  hi : Option Half
deriving DecidableEq, Repr

/-- The error record, which counts only if ERR = 1 (R264). -/
structure ErrorRecord where
  ecause : Half
  einfo  : Half
deriving DecidableEq, Repr

/-- R264: the result of a run. It does not say how long the run took, what IRQ did, or what PT holds. -/
structure RunResult where
  w        : Vector WResult 8
  status   : Half
  cursor   : Half
  counters : Counters
  error    : Option ErrorRecord
deriving DecidableEq, Repr

/-- R264: what the result says of a W register. -/
def WReg.result (r : WReg) : WResult where
  lo := if r.loWritten then some (lo r.val) else none
  hi := if r.hiWritten then some (hi r.val) else none

/-- R264: the result of a run, read from the state it ended in. -/
def State.result (s : State) : RunResult where
  w := s.w.map WReg.result
  status := s.statusWord
  cursor := s.cursor
  counters := s.counters
  error := if s.status.err then some { ecause := s.ecause.code, einfo := s.einfo } else none

/-- R264: the run from `s` has the result `r`: it ends, validly, in a state with that result. -/
def State.RunResultIs (s : State) (r : RunResult) : Prop := ∃ t, s.RunEndsAt t ∧ t.ValidEnd ∧ t.result = r

/-! ### The clean start (R265) -/

/-- R43: exactly the reset state, of a machine with legal parameters, no model fault recorded. What is not the block's state
(the turns to come, what the host read, the counts that index free values) may be anything. -/
def State.IsReset (s : State) : Prop :=
  s = { State.reset with
    params := s.params
    schedule := s.schedule
    hostData := s.hostData
    draws := s.draws
    resets := s.resets } ∧
  Config.legal s.params.nmax s.params.epxBase = true

/-- R265: host steps, each completed before the next: after each access the block has its turn. -/
def completedSteps (accesses : List HostAccess) : List Turn :=
  accesses.flatMap fun a => [.host a, .block]

/-- R265: `s` is the clean start of an example that lists `accesses` under "host:": the reset state, then those steps, each
completed, with BUSY = 0 afterwards; no model fault, PENDING = NONE, ERR = 0 and OVR = 0. -/
def State.CleanStart (accesses : List HostAccess) (s : State) : Prop :=
  (∃ r : State, r.IsReset ∧ r.schedule = completedSteps accesses ++ s.schedule ∧
    Host.Core.run Sys2Proof.core (completedSteps accesses).length r = .next s) ∧
  s.unwrittenRead = false ∧ s.pending = none ∧ s.status.err = false ∧ s.status.ovr = false

/-! ### Invariants -/

/-- R42 item 2: what BUILT = 1 promises of N, PT, FB and CURSOR. -/
structure TableValid (s : State) : Prop where
  nLow : 2 ≤ s.n.toNat
  nHigh : s.n.toNat ≤ s.params.nmax
  writtenTo : s.n.toNat ≤ s.pt.length
  power : ∀ i, i < s.n.toNat → (s.ptRead i).toNat = i ^ 5 ∧ i ^ 5 < 2 ^ widthBits s.config.width64
  filter : ∀ key, filterBit s.fb key = true ↔ ∃ i, i < s.n.toNat ∧ fold16 (s.ptRead i) = key
  cursor : s.cursor.toNat ≤ s.n.toNat

/-- R42, with the registers' reserved bits: what every reachable state satisfies. -/
structure Inv (s : State) : Prop where
  busy : s.statusWord.getLsbD 0 = true ↔ s.pending ≠ none
  table : s.status.built = true → TableValid s
  errIdle : s.status.err = true → s.pending = none
  cmdWord : ∀ word, s.pending = some word → s.cmd = zext64 word
  cmdHigh : s.cmd.toNat < 2 ^ 32
  einfoHigh : s.einfo.toNat < 2 ^ 32
  params : Config.legal s.params.nmax s.params.epxBase = true
  tableWf : s.tableWf = true

/-! ### What a command leaves alone -/

/-- No command writes these: CONFIG, N, IRQEN, CMD, the parameters, and the host's side of the port. -/
structure PortKept (s t : State) : Prop where
  config : t.config = s.config
  n : t.n = s.n
  irqen : t.irqen = s.irqen
  cmd : t.cmd = s.cmd
  params : t.params = s.params
  schedule : t.schedule = s.schedule
  hostData : t.hostData = s.hostData
  draws : t.draws = s.draws
  resets : t.resets = s.resets

/-- Every entry of PT and every bit of FB reads as before. -/
structure TablesKept (s t : State) : Prop where
  pt : ∀ i, t.ptRead i = s.ptRead i
  fb : ∀ key, filterBit t.fb key = filterBit s.fb key

/-- The error record ECAUSE and EINFO is as before (ERR is in STATUS). -/
structure RecordKept (s t : State) : Prop where
  ecause : t.ecause = s.ecause
  einfo : t.einfo = s.einfo

/-- Every W register but `rd` is as before, with its marks. -/
def RegsKeptBut (rd : Reg) (s t : State) : Prop := ∀ r : Reg, r ≠ rd → t.w[r.val] = s.w[r.val]

/-- R65: a command completed without error, and besides counted as `k` and left STATUS as `st`. -/
structure CompletedOk (k : Counters) (st : Status) (s t : State) : Prop where
  idle : t.pending = none
  counters : t.counters = { k with cmdcnt := s.counters.cmdcnt + 1 }
  status : t.status = { st with done := true }
  record : RecordKept s t
  port : PortKept s t

/-- A command without error wrote `v` to rd (both halves, now marked written), left CURSOR as `c`, counted as `k` and left
STATUS as `st`; nothing else of the registers and tables changed. -/
structure Wrote (rd : Reg) (v : Wide) (c : Half) (k : Counters) (st : Status) (s t : State) : Prop where
  value : t.x rd = v
  marked : t.written rd = true
  others : RegsKeptBut rd s t
  cursor : t.cursor = c
  tables : TablesKept s t
  completed : CompletedOk k st s t

/-- A command without error wrote `v` to rd and left STATUS as `st`; CURSOR and the lookup counters are as before. -/
abbrev WroteRegister (rd : Reg) (v : Wide) (st : Status) (s t : State) : Prop :=
  Wrote rd v s.cursor s.counters st s t

/-- A command without error that writes no W register, and leaves CURSOR as `c` and STATUS as `st`. -/
structure WroteNoRegister (c : Half) (st : Status) (s t : State) : Prop where
  w : t.w = s.w
  cursor : t.cursor = c
  tables : TablesKept s t
  completed : CompletedOk s.counters st s t

/-- The registers whose `x[r]` a command's pseudocode evaluates. -/
def sources : Instr → List Reg
  | .nop => []
  | .li _ _ => []
  | .mov _ rs1 => [rs1]
  | .add _ rs1 rs2 => [rs1, rs2]
  | .mul _ rs1 rs2 => [rs1, rs2]
  | .mulll _ rs1 rs2 => [rs1, rs2]
  | .pow5 _ rs1 => [rs1]
  | .cmp rs1 rs2 => [rs1, rs2]
  | .fold16 _ rs1 => [rs1]
  | .fold32 _ rs1 => [rs1]
  | .fold64 _ rs1 => [rs1]
  | .build => []
  | .ldp _ rs1 => [rs1]
  | .lookup _ rs1 => [rs1]
  | .fprobe rs1 => [rs1]
  | .setcur rs1 => [rs1]

/-- R22: the commands that check BUILT before they evaluate a register. -/
def checksBuilt : Instr → Bool
  | .ldp _ _ | .lookup _ _ | .fprobe _ | .setcur _ => true
  | .nop | .li _ _ | .mov _ _ | .add _ _ _ | .mul _ _ _ | .mulll _ _ _ | .pow5 _ _ | .cmp _ _
  | .fold16 _ _ | .fold32 _ _ | .fold64 _ _ | .build => false

/-- The UNWRITTEN_READ record after commands that evaluate `x[r]` for each `r` of the list (R22). -/
def State.recordAfterReads (s : State) (rs : List Reg) : Bool :=
  s.unwrittenRead || rs.any (fun r => !s.written r)

/-- 60_exceptions.md R203: the command `word` ended in the error `cause`, and nothing but the error record, DONE, BUSY and
PENDING changed. -/
structure EndedInError (cause : Cause) (word : CommandWord) (s t : State) : Prop where
  idle : t.pending = none
  status : t.status = { s.status with err := true, done := true }
  ecause : t.ecause = cause
  einfo : t.einfo = zext64 word
  w : t.w = s.w
  cursor : t.cursor = s.cursor
  tables : TablesKept s t
  counters : t.counters = s.counters
  port : PortKept s t

/-- Everything of the block's state, the parameters included, is as before: only the host's side of the port and the
model's records may differ. -/
structure BlockKept (s t : State) : Prop where
  w : t.w = s.w
  status : t.status = s.status
  config : t.config = s.config
  n : t.n = s.n
  cursor : t.cursor = s.cursor
  tables : TablesKept s t
  record : RecordKept s t
  irqen : t.irqen = s.irqen
  cmd : t.cmd = s.cmd
  counters : t.counters = s.counters
  pending : t.pending = s.pending
  params : t.params = s.params
  resets : t.resets = s.resets

/-- `v` is the table's entry at index `i` (10_state.md R33): `0 <= i < N` and `PT[i] = v`. -/
def State.IsBase (s : State) (v : Wide) (i : Nat) : Prop := i < s.n.toNat ∧ s.ptRead i = v

/-- 42_membership.md R161: `while c < N and PT[c] < v: c <- c + 1`, begun at CURSOR, ends at `c`. -/
def State.ScanStopsAt (s : State) (v : Wide) (c : Nat) : Prop :=
  s.cursor.toNat ≤ c ∧
  (∀ k, s.cursor.toNat ≤ k → k < c → k < s.n.toNat ∧ (s.ptRead k).toNat < v.toNat) ∧
  (c < s.n.toNat → v.toNat ≤ (s.ptRead c).toNat)

/-- R51: the state in which the host's next access is a write of `v` at offset `off` of the window. -/
def State.hostWrites (s : State) (off : Nat) (v : Half) : State :=
  { s with schedule := .host (.write (s.params.epxBase + off) 8 v) :: s.schedule }

/-- R51: the state in which the host's next access is a read at offset `off` of the window. -/
def State.hostReads (s : State) (off : Nat) : State :=
  { s with schedule := .host (.read (s.params.epxBase + off) 8) :: s.schedule }

end Sys2Proof.Machine
end

