-- ==== Sys2Proof/Certificates/Slice0/Obligations.lean ====
section
/-! DEFINITION. The statements for the provers, from the numbered rules of spec/. OBLIGATIONS.json lists them. -/

open Sys2Proof Sys2Proof.Machine

/-! ### Encoding and decoding (30_encoding.md) -/

/-- Every command, with every operand at every value, decodes from its own word. -/
def Obligations.EveryCommandDecodesFromItsWord : Prop :=
  ∀ i : Instr, decode (encode i) = .ok i

/-- A word that decodes to a command is that command's one word: no bit of it is ignored. -/
def Obligations.EveryLegalWordIsItsCommandsWord : Prop :=
  ∀ (x : CommandWord) (i : Instr), decode x = .ok i → encode i = x

/-- R87: decoding is by mask and match, and at most one row matches. -/
def Obligations.WordDecodesByMaskAndMatch : Prop :=
  (∀ (x : CommandWord) (m : Mnemonic),
    (∃ i, decode x = .ok i ∧ i.mnemonic = m) ↔ x &&& m.mask = m.matchBits) ∧
  (∀ (x : CommandWord) (m m' : Mnemonic),
    x &&& m.mask = m.matchBits → x &&& m'.mask = m'.matchBits → m = m')

/-- R88: the two ways a word can be ILLEGAL; the only NOP is the all-zero word; a word of all ones is ILLEGAL. -/
def Obligations.WordIsIllegalByOpcodeOrReservedBit : Prop :=
  (∀ x : CommandWord, decode x = .error .reservedOpcode ↔
    (0x0B ≤ x.toNat / 2 ^ 26 ∧ x.toNat / 2 ^ 26 ≤ 0x1F) ∨
    (0x22 ≤ x.toNat / 2 ^ 26 ∧ x.toNat / 2 ^ 26 ≤ 0x27) ∨
    (0x2B ≤ x.toNat / 2 ^ 26 ∧ x.toNat / 2 ^ 26 ≤ 0x3F)) ∧
  (∀ x : CommandWord, decode x = .error .reservedBit ↔
    ∃ m : Mnemonic, m.opcode.toNat = x.toNat / 2 ^ 26 ∧ x &&& m.mask ≠ m.matchBits) ∧
  (∀ x : CommandWord, decode x = .ok .nop ↔ x = 0x00000000#32) ∧
  decode 0xFFFFFFFF#32 = .error .reservedOpcode

/-- R88, R203: an ILLEGAL word completes with the error ILLEGAL and changes no other state. -/
def Obligations.IllegalWordEndsInErrorIllegal : Prop :=
  ∀ (s : State) (word : CommandWord) (e : Illegal),
    s.turn = .block → s.pending = some word → decode word = .error e →
    ∃ t, step s = .next t ∧ EndedInError .illegal word s.afterTurn t ∧ t.unwrittenRead = s.unwrittenRead

/-- R94: the encoding examples. -/
def Obligations.SpecExampleWordsAssembleAndDecode : Prop :=
  (assembleText "nop" = some .nop ∧ decode 0x00000000#32 = .ok .nop) ∧
  (assembleText "li w1, 27" = some (.li 1 27#17) ∧ decode 0x0480001B#32 = .ok (.li 1 27#17)) ∧
  (assembleText "li w7, 131071" = some (.li 7 131071#17) ∧ decode 0x0781FFFF#32 = .ok (.li 7 131071#17)) ∧
  (assembleText "add w3, w1, w2" = some (.add 3 1 2) ∧ decode 0x0D940000#32 = .ok (.add 3 1 2)) ∧
  (assembleText "mul w0, w0, w0" = some (.mul 0 0 0) ∧ decode 0x10000000#32 = .ok (.mul 0 0 0)) ∧
  (assembleText "pow5 w2, w2" = some (.pow5 2 2) ∧ decode 0x19200000#32 = .ok (.pow5 2 2)) ∧
  (assembleText "cmp w1, w2" = some (.cmp 1 2) ∧ decode 0x1C140000#32 = .ok (.cmp 1 2)) ∧
  (assembleText "build" = some .build ∧ decode 0x80000000#32 = .ok .build) ∧
  (assembleText "lookup w0, w1" = some (.lookup 0 1) ∧ decode 0xA0100000#32 = .ok (.lookup 0 1)) ∧
  (assembleText "setcur w5" = some (.setcur 5) ∧ decode 0xA8500000#32 = .ok (.setcur 5)) ∧
  decode 0x0C000001#32 = .error .reservedBit ∧
  decode 0x2C000000#32 = .error .reservedOpcode

/-- R92: the assembler accepts exactly the lines with the operands their mnemonic takes, each in range; and every command
is written by some line. -/
def Obligations.AssemblerAcceptsExactlyTheWellFormedLines : Prop :=
  (∀ l : SourceLine, (assemble l).isSome = l.wellFormed) ∧
  (∀ i : Instr, ∃ l : SourceLine, l.name = .command i.mnemonic ∧ assemble l = some i)

/-- R93: each pseudo-instruction expands to one command. -/
def Obligations.PseudoInstructionsExpandToOneCommand : Prop :=
  ∀ wd ws : Reg,
    assemble ⟨.clr, [.reg wd.val]⟩ = some (.li wd 0#17) ∧
    assemble ⟨.sqr, [.reg wd.val, .reg ws.val]⟩ = some (.mul wd ws ws) ∧
    assemble ⟨.dbl, [.reg wd.val, .reg ws.val]⟩ = some (.add wd ws ws) ∧
    assemble ⟨.probe, [.reg ws.val]⟩ = some (.fprobe ws)

/-- R53: on a bus with byte lanes, lane k holds bits [8k+7:8k], and the eight lanes together are the register. -/
def Obligations.ByteLanesAreLittleEndian : Prop :=
  ∀ v : Half,
    (∀ k j, k < 8 → j < 8 → (byteLane v k).getLsbD j = v.getLsbD (8 * k + j)) ∧
    ofByteLanes (byteLane v 0) (byteLane v 1) (byteLane v 2) (byteLane v 3)
      (byteLane v 4) (byteLane v 5) (byteLane v 6) (byteLane v 7) = v

/-! ### The step (20_memory.md R65, 30_encoding.md R91) -/

/-- R65, R91: in the block's turn, with a command pending, a step is the decoded command's exec; all the step adds is that
the turn is taken from the schedule. -/
def Obligations.StepExecutesThePendingCommand : Prop :=
  ∀ (s : State) (word : CommandWord) (i : Instr),
    s.turn = .block → s.pending = some word → decode word = .ok i →
    step s = exec i { s with schedule := s.schedule.tail }

/-- A word placed for the host's question is the one the next step executes, as an accepted CMD write would leave it (log
entry 3, the model's own). -/
def Obligations.PlacedWordIsExecutedNext : Prop :=
  ∀ (s : State) (nbits w : Nat) (i : Instr),
    decodeTableWord nbits w = some i →
    step (s.withFetchWord nbits w) =
      exec i { s with pending := some (encode i), cmd := zext64 (encode i) }

/-- R65: the block has no step unless a command is pending; its turn then changes nothing (log entry 2, the model's own). -/
def Obligations.IdleBlockChangesNothing : Prop :=
  ∀ s : State, s.turn = .block → s.pending = none →
    step s = .next { s with schedule := s.schedule.tail }

/-! ### WideInteger commands (40_wideinteger.md) -/

/-- R104: NOP completes and changes nothing else. -/
def Obligations.NopOnlyCompletes : Prop :=
  ∀ s : State, ∃ t, exec .nop s = .next t ∧
    WroteNoRegister s.cursor s.status s t ∧ t.unwrittenRead = s.unwrittenRead

/-- R102: LI writes the zero-extended immediate. -/
def Obligations.LiLoadsTheZeroExtendedImmediate : Prop :=
  ∀ (rd : Reg) (imm17 : BitVec 17) (s : State), ∃ t, exec (.li rd imm17) s = .next t ∧
    WroteRegister rd (BitVec.ofNat 128 imm17.toNat) s.status s t ∧ t.unwrittenRead = s.unwrittenRead

/-- R103: MOV copies all 128 bits, whatever w is. -/
def Obligations.MovCopiesAll128Bits : Prop :=
  ∀ (rd rs1 : Reg) (s : State), ∃ t, exec (.mov rd rs1) s = .next t ∧
    WroteRegister rd (s.x rs1) s.status s t ∧ t.unwrittenRead = s.recordAfterReads [rs1]

/-- R105, as its pseudocode computes: the carry of the low half goes into the high half, and C is the carry out. -/
def Obligations.AddCarriesFromTheLowHalfIntoTheHighHalf : Prop :=
  ∀ (rd rs1 rs2 : Reg) (s : State), ∃ t, exec (.add rd rs1 rs2) s = .next t ∧
    WroteRegister rd (t.x rd) { s.status with c := t.status.c } s t ∧
    t.unwrittenRead = s.recordAfterReads [rs1, rs2] ∧
    (s.config.width64 = false →
      ∃ s0 c64 s1 : Nat,
        s0 = (lo (s.x rs1)).toNat + (lo (s.x rs2)).toNat ∧
        c64 = (if 2 ^ 64 ≤ s0 then 1 else 0) ∧
        s1 = (hi (s.x rs1)).toNat + (hi (s.x rs2)).toNat + c64 ∧
        (hi (t.x rd)).toNat = s1 % 2 ^ 64 ∧ (lo (t.x rd)).toNat = s0 % 2 ^ 64 ∧
        (t.status.c = true ↔ 2 ^ 64 ≤ s1)) ∧
    (s.config.width64 = true →
      (t.x rd).toNat = ((lo (s.x rs1)).toNat + (lo (s.x rs2)).toNat) % 2 ^ 64 ∧
      (t.status.c = true ↔ 2 ^ 64 ≤ (lo (s.x rs1)).toNat + (lo (s.x rs2)).toNat))

/-- R106, as its pseudocode computes: three partial products, and V from the exact product. -/
def Obligations.MulSumsThreePartialProducts : Prop :=
  ∀ (rd rs1 rs2 : Reg) (s : State), ∃ t, exec (.mul rd rs1 rs2) s = .next t ∧
    WroteRegister rd (t.x rd) { s.status with v := t.status.v } s t ∧
    t.unwrittenRead = s.recordAfterReads [rs1, rs2] ∧
    (s.config.width64 = false →
      ∃ p0 p1 p2 : Nat,
        p0 = (lo (s.x rs1)).toNat * (lo (s.x rs2)).toNat ∧
        p1 = (lo (s.x rs1)).toNat * (hi (s.x rs2)).toNat ∧
        p2 = (hi (s.x rs1)).toNat * (lo (s.x rs2)).toNat ∧
        (t.x rd).toNat = (p0 + (p1 + p2) % 2 ^ 64 * 2 ^ 64) % 2 ^ 128 ∧
        (t.status.v = true ↔ 2 ^ 128 ≤ (s.x rs1).toNat * (s.x rs2).toNat)) ∧
    (s.config.width64 = true →
      (t.x rd).toNat = (lo (s.x rs1)).toNat * (lo (s.x rs2)).toNat % 2 ^ 64 ∧
      (t.status.v = true ↔ 2 ^ 64 ≤ (lo (s.x rs1)).toNat * (lo (s.x rs2)).toNat))

/-- The sentences R105 and R106 mark as derived ("This equals x[rd] <- (a + b) mod 2^128 ...", "This equals x[rd] <-
(a * b) mod 2^128"), and R113 items 2 and 7: at w = 128 ADD and MUL agree with exact arithmetic, modulo 2^128, and C or V
is 0 exactly when nothing was lost. -/
def Obligations.AddAndMulAgreeWithExactArithmetic : Prop :=
  ∀ (rd rs1 rs2 : Reg) (s : State), s.config.width64 = false →
    (∃ t, exec (.add rd rs1 rs2) s = .next t ∧
      (t.x rd).toNat = ((s.x rs1).toNat + (s.x rs2).toNat) % 2 ^ 128 ∧
      (t.status.c = false ↔ (t.x rd).toNat = (s.x rs1).toNat + (s.x rs2).toNat)) ∧
    (∃ t, exec (.mul rd rs1 rs2) s = .next t ∧
      (t.x rd).toNat = (s.x rs1).toNat * (s.x rs2).toNat % 2 ^ 128 ∧
      (t.status.v = false ↔ (t.x rd).toNat = (s.x rs1).toNat * (s.x rs2).toNat))

/-- R107: MULLL is exact, ignores w and the high halves, and clears V. -/
def Obligations.MulllIsExactOnTheLowHalves : Prop :=
  ∀ (rd rs1 rs2 : Reg) (s : State), ∃ t, exec (.mulll rd rs1 rs2) s = .next t ∧
    WroteRegister rd (t.x rd) { s.status with v := false } s t ∧
    (t.x rd).toNat = (lo (s.x rs1)).toNat * (lo (s.x rs2)).toNat ∧
    t.unwrittenRead = s.recordAfterReads [rs1, rs2]

/-- R108: POW5 is the fifth power modulo 2^w of the width-w operand, and V says that the exact power does not fit. -/
def Obligations.Pow5IsTheFifthPowerModuloTwoToTheW : Prop :=
  ∀ (rd rs1 : Reg) (s : State), ∃ t, exec (.pow5 rd rs1) s = .next t ∧
    WroteRegister rd (t.x rd) { s.status with v := t.status.v } s t ∧
    t.unwrittenRead = s.recordAfterReads [rs1] ∧
    (s.config.width64 = false →
      (t.x rd).toNat = (s.x rs1).toNat ^ 5 % 2 ^ 128 ∧
      (t.status.v = true ↔ 2 ^ 128 ≤ (s.x rs1).toNat ^ 5)) ∧
    (s.config.width64 = true →
      (t.x rd).toNat = (lo (s.x rs1)).toNat ^ 5 % 2 ^ 64 ∧
      (t.status.v = true ↔ 2 ^ 64 ≤ (lo (s.x rs1)).toNat ^ 5))

/-- What R108 and R141 mark as derived: V = 0 exactly up to 50859008 (w = 128) and up to 7131 (w = 64); V = 1 exactly when
a step of the chain overflows; and in 64-bit mode BUILD's width check passes exactly when N <= 7132. -/
def Obligations.WidthThresholdsAreExact : Prop :=
  ∀ (rd rs1 : Reg) (s : State),
    (∃ t, exec (.pow5 rd rs1) s = .next t ∧
      (s.config.width64 = false → (t.status.v = false ↔ (s.x rs1).toNat ≤ 50859008)) ∧
      (s.config.width64 = true → (t.status.v = false ↔ (lo (s.x rs1)).toNat ≤ 7131)) ∧
      (t.status.v = true ↔ ∃ k, 1 ≤ k ∧ k ≤ 4 ∧
        2 ^ widthBits s.config.width64 ≤
          (opnd s.config.width64 (s.x rs1)).toNat ^ k % 2 ^ widthBits s.config.width64 *
            (opnd s.config.width64 (s.x rs1)).toNat)) ∧
    (∃ t, exec .build s = .next t ∧
      (2 ≤ s.n.toNat → s.n.toNat ≤ s.params.nmax → s.config.width64 = true →
        (t.status.built = true ∧ t.counters.cmdcnt = s.counters.cmdcnt + 1 ↔ s.n.toNat ≤ 7132)))

/-- R109: CMP compares all 128 bits, unsigned, whatever w is; no register is written. -/
def Obligations.CmpComparesAll128Bits : Prop :=
  ∀ (rs1 rs2 : Reg) (s : State), ∃ t, exec (.cmp rs1 rs2) s = .next t ∧
    WroteNoRegister s.cursor { s.status with eq := t.status.eq, lt := t.status.lt } s t ∧
    (t.status.eq = true ↔ s.x rs1 = s.x rs2) ∧
    (t.status.lt = true ↔ (s.x rs1).toNat < (s.x rs2).toNat) ∧
    t.unwrittenRead = s.recordAfterReads [rs1, rs2]

/-- R110: FOLD64, bit by bit. -/
def Obligations.Fold64XorsTheTwoHalves : Prop :=
  ∀ (rd rs1 : Reg) (s : State), ∃ t, exec (.fold64 rd rs1) s = .next t ∧
    WroteRegister rd (t.x rd) s.status s t ∧ t.unwrittenRead = s.recordAfterReads [rs1] ∧
    (∀ k, k < 64 → (t.x rd).getLsbD k = ((s.x rs1).getLsbD (64 + k) ^^ (s.x rs1).getLsbD k)) ∧
    (∀ k, 64 ≤ k → (t.x rd).getLsbD k = false)

/-- R111: FOLD32, bit by bit. -/
def Obligations.Fold32XorsTheFourWords : Prop :=
  ∀ (rd rs1 : Reg) (s : State), ∃ t, exec (.fold32 rd rs1) s = .next t ∧
    WroteRegister rd (t.x rd) s.status s t ∧ t.unwrittenRead = s.recordAfterReads [rs1] ∧
    (∀ k, k < 32 → (t.x rd).getLsbD k =
      ((s.x rs1).getLsbD (96 + k) ^^ (s.x rs1).getLsbD (64 + k) ^^
        (s.x rs1).getLsbD (32 + k) ^^ (s.x rs1).getLsbD k)) ∧
    (∀ k, 32 ≤ k → (t.x rd).getLsbD k = false)

/-- R112: FOLD16, bit by bit. -/
def Obligations.Fold16XorsTheEightChunks : Prop :=
  ∀ (rd rs1 : Reg) (s : State), ∃ t, exec (.fold16 rd rs1) s = .next t ∧
    WroteRegister rd (t.x rd) s.status s t ∧ t.unwrittenRead = s.recordAfterReads [rs1] ∧
    (∀ k, k < 16 → (t.x rd).getLsbD k =
      ((s.x rs1).getLsbD k ^^ (s.x rs1).getLsbD (16 + k) ^^ (s.x rs1).getLsbD (32 + k) ^^
        (s.x rs1).getLsbD (48 + k) ^^ (s.x rs1).getLsbD (64 + k) ^^ (s.x rs1).getLsbD (80 + k) ^^
        (s.x rs1).getLsbD (96 + k) ^^ (s.x rs1).getLsbD (112 + k))) ∧
    (∀ k, 16 ≤ k → (t.x rd).getLsbD k = false)

/-- R113 item 3, and the sentences R111 and R112 mark as derived: ADD and MUL are commutative and associative modulo 2^w,
MUL distributes over ADD, POW5 is MUL applied four times, and each fold is a fold of the next wider one. -/
def Obligations.ArithmeticAndFoldLaws : Prop :=
  (∀ (width64 : Bool) (a b c : Wide),
    addSum width64 a b = addSum width64 b a ∧
    addSum width64 (addSum width64 a b) c = addSum width64 a (addSum width64 b c) ∧
    mulProduct width64 a b = mulProduct width64 b a ∧
    mulProduct width64 (mulProduct width64 a b) c = mulProduct width64 a (mulProduct width64 b c) ∧
    mulProduct width64 a (addSum width64 b c) = addSum width64 (mulProduct width64 a b) (mulProduct width64 a c) ∧
    pow5 width64 a =
      mulProduct width64 (mulProduct width64 (mulProduct width64 (mulProduct width64 a a) a) a) a) ∧
  (∀ v : Wide,
    fold32 v = (fold64 v).extractLsb' 32 32 ^^^ (fold64 v).extractLsb' 0 32 ∧
    fold16 v = (fold32 v).extractLsb' 16 16 ^^^ (fold32 v).extractLsb' 0 16)

/-! ### PowerTable commands (41_powertable.md) -/

/-- R140 and what R141 and R143 derive: a BUILD whose checks pass leaves PT[i] = i^5 for every i < N, FB exactly the keys
of those entries, CURSOR = 0 and BUILT = 1; entries from N on keep what they held (log entry 9: 93 I5 lets a model keep
them). -/
def Obligations.BuildBuildsTableAndFilter : Prop :=
  ∀ s : State, Config.legal s.params.nmax s.params.epxBase = true →
    2 ≤ s.n.toNat → s.n.toNat ≤ s.params.nmax →
    (s.config.width64 = true → (s.n.toNat - 1) ^ 5 ≤ 2 ^ 64 - 1) →
    ∃ t, exec .build s = .next t ∧
      (∀ i, i < s.n.toNat → (t.ptRead i).toNat = i ^ 5 ∧ i ^ 5 < 2 ^ widthBits s.config.width64) ∧
      (∀ i, s.n.toNat ≤ i → t.ptRead i = s.ptRead i) ∧
      (∀ key, filterBit t.fb key = true ↔ ∃ i, i < s.n.toNat ∧ fold16 (t.ptRead i) = key) ∧
      t.cursor = 0 ∧ t.w = s.w ∧ t.unwrittenRead = s.unwrittenRead ∧
      CompletedOk s.counters { s.status with built := true } s t

/-- R141: BUILD's checks run in their order, and the first that fails is its error, with no table state changed. -/
def Obligations.BuildChecksRunInOrder : Prop :=
  ∀ (s : State) (word : CommandWord), s.pending = some word →
    (s.n.toNat ≤ 1 → ∃ t, exec .build s = .next t ∧ EndedInError .cfgNSmall word s t ∧
      t.unwrittenRead = s.unwrittenRead) ∧
    (2 ≤ s.n.toNat → s.params.nmax < s.n.toNat →
      ∃ t, exec .build s = .next t ∧ EndedInError .cfgNLarge word s t ∧ t.unwrittenRead = s.unwrittenRead) ∧
    (2 ≤ s.n.toNat → s.n.toNat ≤ s.params.nmax → s.config.width64 = true →
      2 ^ 64 - 1 < (s.n.toNat - 1) ^ 5 →
      ∃ t, exec .build s = .next t ∧ EndedInError .cfgWidth word s t ∧ t.unwrittenRead = s.unwrittenRead) ∧
    (2 ≤ s.n.toNat → s.n.toNat ≤ s.params.nmax →
      (s.config.width64 = true → (s.n.toNat - 1) ^ 5 ≤ 2 ^ 64 - 1) →
      ∃ t, exec .build s = .next t ∧ t.status.built = true ∧
        CompletedOk s.counters { s.status with built := true } s t)

/-- R140's corner case and worked example W5: a BUILD over a valid table rebuilds the same PT[0] to PT[N-1] and FB, and resets
CURSOR. That the entries from N on, which R31 leaves unspecified, also read as before is the model's choice (log entry 9). -/
def Obligations.RebuildGivesTheSameTables : Prop :=
  ∀ s : State, TableValid s →
    ∃ t, exec .build s = .next t ∧ TablesKept s t ∧ t.cursor = 0 ∧ t.w = s.w ∧
      CompletedOk s.counters { s.status with built := true } s t

/-- What R143 derives of a built table: it strictly increases, each value has at most one base, PT[0] = 0 and PT[1] = 1,
and LDP gives the fifth power. -/
def Obligations.BuiltTableStrictlyIncreases : Prop :=
  ∀ s : State, s.status.built = true → TableValid s →
    (∀ i j, i < j → j < s.n.toNat → (s.ptRead i).toNat < (s.ptRead j).toNat) ∧
    (∀ v i j, s.IsBase v i → s.IsBase v j → i = j) ∧
    s.ptRead 0 = 0 ∧ s.ptRead 1 = 1 ∧
    (∀ rd rs1, (s.x rs1).toNat < s.n.toNat →
      ∃ t, exec (.ldp rd rs1) s = .next t ∧ (t.x rd).toNat = (s.x rs1).toNat ^ 5)

/-- R142: LDP checks BUILT, then the index (all 128 bits), then reads the entry. -/
def Obligations.LdpReadsTheEntryOrFails : Prop :=
  ∀ (rd rs1 : Reg) (s : State),
    (s.status.built = false → ∀ word, s.pending = some word →
      ∃ t, exec (.ldp rd rs1) s = .next t ∧ EndedInError .notBuilt word s t ∧
        t.unwrittenRead = s.unwrittenRead) ∧
    (s.status.built = true → s.n.toNat ≤ (s.x rs1).toNat → ∀ word, s.pending = some word →
      ∃ t, exec (.ldp rd rs1) s = .next t ∧ EndedInError .indexRange word s t ∧
        t.unwrittenRead = s.recordAfterReads [rs1]) ∧
    (s.status.built = true → (s.x rs1).toNat < s.n.toNat →
      ∃ t, exec (.ldp rd rs1) s = .next t ∧
        WroteRegister rd (s.ptRead (s.x rs1).toNat) s.status s t ∧
        t.unwrittenRead = s.recordAfterReads [rs1])

/-! ### MembershipIndex commands (42_membership.md) -/

/-- R161: LOOKUP, path by path: not built; rejected by the filter; HASH, member or not; SCAN, member at the stop or not. -/
def Obligations.LookupFollowsItsPseudocode : Prop :=
  ∀ (rd rs1 : Reg) (s : State),
    (s.status.built = false → ∀ word, s.pending = some word →
      ∃ t, exec (.lookup rd rs1) s = .next t ∧ EndedInError .notBuilt word s t ∧
        t.unwrittenRead = s.unwrittenRead) ∧
    (s.status.built = true → filterBit s.fb (fold16 (s.x rs1)) = false →
      ∃ t, exec (.lookup rd rs1) s = .next t ∧ t.unwrittenRead = s.recordAfterReads [rs1] ∧
        Wrote rd (BitVec.allOnes 128) s.cursor { s.counters with lkcnt := s.counters.lkcnt + 1 }
          { s.status with fh := false, hit := false } s t) ∧
    (s.status.built = true → filterBit s.fb (fold16 (s.x rs1)) = true → s.config.strategy = .hash →
      ∀ j, s.IsBase (s.x rs1) j → (∀ k, k < j → ¬ s.IsBase (s.x rs1) k) →
      ∃ t, exec (.lookup rd rs1) s = .next t ∧ t.unwrittenRead = s.recordAfterReads [rs1] ∧
        Wrote rd (BitVec.ofNat 128 j) s.cursor
          { s.counters with
            lkcnt := s.counters.lkcnt + 1, fhcnt := s.counters.fhcnt + 1, hitcnt := s.counters.hitcnt + 1 }
          { s.status with fh := true, hit := true } s t) ∧
    (s.status.built = true → filterBit s.fb (fold16 (s.x rs1)) = true → s.config.strategy = .hash →
      (∀ j, ¬ s.IsBase (s.x rs1) j) →
      ∃ t, exec (.lookup rd rs1) s = .next t ∧ t.unwrittenRead = s.recordAfterReads [rs1] ∧
        Wrote rd (BitVec.allOnes 128) s.cursor
          { s.counters with lkcnt := s.counters.lkcnt + 1, fhcnt := s.counters.fhcnt + 1 }
          { s.status with fh := true, hit := false } s t) ∧
    (s.status.built = true → filterBit s.fb (fold16 (s.x rs1)) = true → s.config.strategy = .scan →
      ∃ c t, s.ScanStopsAt (s.x rs1) c ∧
        exec (.lookup rd rs1) s = .next t ∧ t.unwrittenRead = s.recordAfterReads [rs1] ∧
        (s.IsBase (s.x rs1) c →
          Wrote rd (BitVec.ofNat 128 c) (BitVec.ofNat 64 c)
            { s.counters with
              lkcnt := s.counters.lkcnt + 1, fhcnt := s.counters.fhcnt + 1, hitcnt := s.counters.hitcnt + 1 }
            { s.status with fh := true, hit := true } s t) ∧
        (¬ s.IsBase (s.x rs1) c →
          Wrote rd (BitVec.allOnes 128) (BitVec.ofNat 64 c)
            { s.counters with lkcnt := s.counters.lkcnt + 1, fhcnt := s.counters.fhcnt + 1 }
            { s.status with fh := true, hit := false } s t))

/-- What R162 derives of a SCAN lookup that passes the filter: it hits with base j exactly when PT[j] = v and j is at or
above the cursor, and the cursor ends at the smallest place from there on that is N or holds an entry not below v. -/
def Obligations.ScanConfirmsFromTheCursorOn : Prop :=
  ∀ (rd rs1 : Reg) (s : State),
    s.status.built = true → TableValid s → s.config.strategy = .scan →
    filterBit s.fb (fold16 (s.x rs1)) = true →
    ∃ t, exec (.lookup rd rs1) s = .next t ∧
      (∀ j, (t.status.hit = true ∧ t.x rd = BitVec.ofNat 128 j ∧ j < s.n.toNat) ↔
        s.IsBase (s.x rs1) j ∧ s.cursor.toNat ≤ j) ∧
      s.cursor.toNat ≤ t.cursor.toNat ∧ t.cursor.toNat ≤ s.n.toNat ∧
      (t.cursor.toNat = s.n.toNat ∨ (s.x rs1).toNat ≤ (s.ptRead t.cursor.toNat).toNat) ∧
      (∀ c, s.cursor.toNat ≤ c → c < t.cursor.toNat →
        c < s.n.toNat ∧ (s.ptRead c).toNat < (s.x rs1).toNat)

/-- What R163 derives: the filter has no false negatives; HASH is exact; SCAN has no false positives, and none negative
for a base at or above the cursor. -/
def Obligations.LookupIsSound : Prop :=
  ∀ (rd rs1 : Reg) (s : State), s.status.built = true → TableValid s →
    (∀ i, i < s.n.toNat → filterBit s.fb (fold16 (s.ptRead i)) = true) ∧
    (s.config.strategy = .hash → ∃ t, exec (.lookup rd rs1) s = .next t ∧
      (t.status.hit = true ↔ ∃ i, s.IsBase (s.x rs1) i) ∧
      (∀ i, s.IsBase (s.x rs1) i → t.x rd = BitVec.ofNat 128 i)) ∧
    (s.config.strategy = .scan → ∃ t, exec (.lookup rd rs1) s = .next t ∧
      (t.status.hit = true → ∃ i, s.IsBase (s.x rs1) i ∧ t.x rd = BitVec.ofNat 128 i) ∧
      (∀ i, s.IsBase (s.x rs1) i → s.cursor.toNat ≤ i → t.status.hit = true))

/-- What R164 derives: HASH and SCAN give the same HIT and rd whenever the cursor is not above the base of v. -/
def Obligations.HashAndScanAgree : Prop :=
  ∀ (rd rs1 : Reg) (s : State), s.status.built = true → TableValid s →
    (∀ i, s.IsBase (s.x rs1) i → s.cursor.toNat ≤ i) →
    ∃ t t',
      exec (.lookup rd rs1) { s with config := { s.config with strategy := .hash } } = .next t ∧
      exec (.lookup rd rs1) { s with config := { s.config with strategy := .scan } } = .next t' ∧
      t.status.hit = t'.status.hit ∧ t.x rd = t'.x rd ∧ t.cursor = s.cursor

/-- R165: FPROBE writes FH from the filter, after the check of BUILT, and nothing else. -/
def Obligations.FprobeWritesOnlyFh : Prop :=
  ∀ (rs1 : Reg) (s : State),
    (s.status.built = false → ∀ word, s.pending = some word →
      ∃ t, exec (.fprobe rs1) s = .next t ∧ EndedInError .notBuilt word s t ∧
        t.unwrittenRead = s.unwrittenRead) ∧
    (s.status.built = true →
      ∃ t, exec (.fprobe rs1) s = .next t ∧ t.unwrittenRead = s.recordAfterReads [rs1] ∧
        WroteNoRegister s.cursor { s.status with fh := filterBit s.fb (fold16 (s.x rs1)) } s t)

/-- R170: SETCUR checks BUILT, then the range (N itself is legal), then sets CURSOR. -/
def Obligations.SetcurSetsTheCursorUpToN : Prop :=
  ∀ (rs1 : Reg) (s : State),
    (s.status.built = false → ∀ word, s.pending = some word →
      ∃ t, exec (.setcur rs1) s = .next t ∧ EndedInError .notBuilt word s t ∧
        t.unwrittenRead = s.unwrittenRead) ∧
    (s.status.built = true → s.n.toNat < (s.x rs1).toNat → ∀ word, s.pending = some word →
      ∃ t, exec (.setcur rs1) s = .next t ∧ EndedInError .cursorRange word s t ∧
        t.unwrittenRead = s.recordAfterReads [rs1]) ∧
    (s.status.built = true → (s.x rs1).toNat ≤ s.n.toNat →
      ∃ t, exec (.setcur rs1) s = .next t ∧ t.unwrittenRead = s.recordAfterReads [rs1] ∧
        t.cursor.toNat = (s.x rs1).toNat ∧ WroteNoRegister t.cursor s.status s t)

/-! ### Every command (20_memory.md R65, 60_exceptions.md R200 to R203, 10_state.md R22, R28) -/

/-- R65, R200, R203: every command completes, in one of two ways: without error, counted in CMDCNT, the error record and
the port untouched; or with an error, precisely. -/
def Obligations.EveryCommandCompletesOrFailsPrecisely : Prop :=
  ∀ (i : Instr) (s : State) (word : CommandWord), s.pending = some word →
    ∃ t, exec i s = .next t ∧
      ((t.pending = none ∧ t.status.done = true ∧ t.status.err = s.status.err ∧ t.status.ovr = s.status.ovr ∧
          t.counters.cmdcnt = s.counters.cmdcnt + 1 ∧ RecordKept s t ∧ PortKept s t) ∨
        ∃ cause, cause ≠ .none ∧ EndedInError cause word s t)

/-- What R202 derives: the errors each command can raise once it has decoded. -/
def Obligations.EachErrorBelongsToItsCommand : Prop :=
  ∀ (i : Instr) (s t : State), exec i s = .next t → s.status.err = false → t.status.err = true →
    (i = .build ∧ (t.ecause = .cfgNSmall ∨ t.ecause = .cfgNLarge ∨ t.ecause = .cfgWidth)) ∨
    (∃ rd rs1, i = .ldp rd rs1 ∧ (t.ecause = .notBuilt ∨ t.ecause = .indexRange)) ∨
    (∃ rd rs1, i = .lookup rd rs1 ∧ t.ecause = .notBuilt) ∨
    (∃ rs1, i = .fprobe rs1 ∧ t.ecause = .notBuilt) ∨
    (∃ rs1, i = .setcur rs1 ∧ (t.ecause = .notBuilt ∨ t.ecause = .cursorRange))

/-- R28: a flag is written only by its commands and only without error; and no command reads a flag: run from two states
that differ only in flags, a command leaves two states that differ at most in the flags it does not write. -/
def Obligations.FlagsAreWrittenByTheirCommandsAndReadByNone : Prop :=
  (∀ (i : Instr) (s t : State), exec i s = .next t →
    (i.mnemonic ≠ .add → t.status.c = s.status.c) ∧
    (i.mnemonic ≠ .mul → i.mnemonic ≠ .mulll → i.mnemonic ≠ .pow5 → t.status.v = s.status.v) ∧
    (i.mnemonic ≠ .cmp → t.status.eq = s.status.eq ∧ t.status.lt = s.status.lt) ∧
    (i.mnemonic ≠ .lookup → i.mnemonic ≠ .fprobe → t.status.fh = s.status.fh) ∧
    (i.mnemonic ≠ .lookup → t.status.hit = s.status.hit) ∧
    (s.status.err = false → t.status.err = true →
      t.status = { s.status with err := true, done := true })) ∧
  (∀ (i : Instr) (s : State) (c v eq lt fh hit : Bool),
    ∃ t t', exec i s = .next t ∧
      exec i { s with status := { s.status with c := c, v := v, eq := eq, lt := lt, fh := fh, hit := hit } }
        = .next t' ∧
      { t' with status := t.status } = t ∧
      t'.status =
        { t.status with
          c := t'.status.c, v := t'.status.v, eq := t'.status.eq,
          lt := t'.status.lt, fh := t'.status.fh, hit := t'.status.hit } ∧
      (t'.status.c = t.status.c ∨ (t'.status.c = c ∧ t.status.c = s.status.c)) ∧
      (t'.status.v = t.status.v ∨ (t'.status.v = v ∧ t.status.v = s.status.v)) ∧
      (t'.status.eq = t.status.eq ∨ (t'.status.eq = eq ∧ t.status.eq = s.status.eq)) ∧
      (t'.status.lt = t.status.lt ∨ (t'.status.lt = lt ∧ t.status.lt = s.status.lt)) ∧
      (t'.status.fh = t.status.fh ∨ (t'.status.fh = fh ∧ t.status.fh = s.status.fh)) ∧
      (t'.status.hit = t.status.hit ∨ (t'.status.hit = hit ∧ t.status.hit = s.status.hit)))

/-- R22: a command records UNWRITTEN_READ exactly for the registers its pseudocode evaluates, and not when it fails for
want of BUILT first; a host read records it for its half; a host write of one half leaves the other's mark. The record is
never taken back (log entry 4). -/
def Obligations.UnwrittenReadsAreRecorded : Prop :=
  (∀ (i : Instr) (s t : State), exec i s = .next t →
    t.unwrittenRead =
      (if checksBuilt i = true ∧ s.status.built = false then s.unwrittenRead
        else s.recordAfterReads (sources i))) ∧
  (∀ (s : State) (r : Reg), s.pending = none →
    (∃ t, step (s.hostReads (0x080 + 16 * r.val)) = .next t ∧
      t.unwrittenRead = (s.unwrittenRead || !s.w[r.val].loWritten)) ∧
    (∃ t, step (s.hostReads (0x088 + 16 * r.val)) = .next t ∧
      t.unwrittenRead = (s.unwrittenRead || !s.w[r.val].hiWritten))) ∧
  (∀ (s : State) (r : Reg) (v : Half), s.pending = none →
    (∃ t, step (s.hostWrites (0x080 + 16 * r.val) v) = .next t ∧
      t.w[r.val].loWritten = true ∧ t.w[r.val].hiWritten = s.w[r.val].hiWritten) ∧
    (∃ t, step (s.hostWrites (0x088 + 16 * r.val) v) = .next t ∧
      t.w[r.val].hiWritten = true ∧ t.w[r.val].loWritten = s.w[r.val].loWritten)) ∧
  (∀ s t : State, step s = .next t → s.unwrittenRead = true → t.unwrittenRead = true)

/-! ### The host port (20_memory.md) -/

/-- R64 (with R55): a CMD write is accepted exactly when BUSY = 0 and ERR = 0; otherwise only OVR is set. -/
def Obligations.CmdWriteIsAcceptedOrDropped : Prop :=
  ∀ (s : State) (v : Half),
    (s.pending = none → s.status.err = false →
      step (s.hostWrites 0x000 v) =
        .next { s with pending := some (v.extractLsb' 0 32), cmd := (v.extractLsb' 0 32).setWidth 64 }) ∧
    (s.pending ≠ none ∨ s.status.err = true →
      step (s.hostWrites 0x000 v) = .next { s with status := { s.status with ovr := true } })

/-- R56: a STATUS write clears DONE, ERR and OVR where it has a 1, BUSY or not, and does nothing else; once it has cleared
ERR, an idle block accepts a command again. -/
def Obligations.StatusWriteClearsWhereOne : Prop :=
  ∀ (s : State) (v : Half),
    step (s.hostWrites 0x008 v) = .next { s with
      status := { s.status with
        done := s.status.done && !v.getLsbD 2
        err := s.status.err && !v.getLsbD 3
        ovr := s.status.ovr && !v.getLsbD 4 } } ∧
    (s.pending = none → v.getLsbD 3 = true → ∀ next : Half,
      ∃ u t, step (s.hostWrites 0x008 v) = .next u ∧ step (u.hostWrites 0x000 next) = .next t ∧
        t.pending = some (next.extractLsb' 0 32))

/-- R57: an idle write of CONFIG or N sets it and clears BUILT and CURSOR. -/
def Obligations.ConfigAndNWritesUnbuild : Prop :=
  ∀ (s : State) (v : Half), s.pending = none →
    step (s.hostWrites 0x020 v) = .next { s with
      config := { width64 := v.getLsbD 0, strategy := if v.getLsbD 1 then .scan else .hash }
      status := { s.status with built := false }
      cursor := 0 } ∧
    step (s.hostWrites 0x028 v) = .next { s with
      n := v
      status := { s.status with built := false }
      cursor := 0 }

/-- R58: an idle write of a W half sets and marks that half and leaves the other; an idle write of a counter sets it; a
write of IRQEN takes effect at any time. -/
def Obligations.WHalfCounterAndIrqenWrites : Prop :=
  ∀ (s : State) (v : Half),
    (s.pending = none → ∀ r : Reg,
      (∃ t, step (s.hostWrites (0x080 + 16 * r.val) v) = .next t ∧
        t.loHalf r = v ∧ t.hiHalf r = s.hiHalf r ∧ t.w[r.val].loWritten = true ∧
        t.w[r.val].hiWritten = s.w[r.val].hiWritten ∧ RegsKeptBut r s t ∧ { t with w := s.w } = s) ∧
      (∃ t, step (s.hostWrites (0x088 + 16 * r.val) v) = .next t ∧
        t.hiHalf r = v ∧ t.loHalf r = s.loHalf r ∧ t.w[r.val].hiWritten = true ∧
        t.w[r.val].loWritten = s.w[r.val].loWritten ∧ RegsKeptBut r s t ∧ { t with w := s.w } = s)) ∧
    (s.pending = none →
      step (s.hostWrites 0x040 v) = .next { s with counters := { s.counters with cmdcnt := v } } ∧
      step (s.hostWrites 0x048 v) = .next { s with counters := { s.counters with lkcnt := v } } ∧
      step (s.hostWrites 0x050 v) = .next { s with counters := { s.counters with fhcnt := v } } ∧
      step (s.hostWrites 0x058 v) = .next { s with counters := { s.counters with hitcnt := v } }) ∧
    step (s.hostWrites 0x038 v) =
      .next { s with irqen := { doneie := v.getLsbD 0, errie := v.getLsbD 1 } }

/-- R60: the host's accesses while a command is pending. -/
def Obligations.AccessesWhileBusy : Prop :=
  ∀ (s : State) (word : CommandWord) (off : Nat) (v : Half), s.pending = some word →
    (off = 0x000 ∨ off = 0x020 ∨ off = 0x028 ∨ (0x040 ≤ off ∧ off < 0x060 ∧ off % 8 = 0) ∨
        (0x080 ≤ off ∧ off < 0x100 ∧ off % 8 = 0) →
      step (s.hostWrites off v) = .next { s with status := { s.status with ovr := true } }) ∧
    (off = 0x030 ∨ off = 0x010 ∨ off = 0x018 ∨ (0x060 ≤ off ∧ off < 0x080 ∧ off % 8 = 0) ∨
        (0x100 ≤ off ∧ off < 0x1000 ∧ off % 8 = 0) →
      step (s.hostWrites off v) = .next s) ∧
    step (s.hostWrites 0x008 v) = .next { s with
      status := { s.status with
        done := s.status.done && !v.getLsbD 2
        err := s.status.err && !v.getLsbD 3
        ovr := s.status.ovr && !v.getLsbD 4 } } ∧
    step (s.hostWrites 0x038 v) =
      .next { s with irqen := { doneie := v.getLsbD 0, errie := v.getLsbD 1 } } ∧
    step (s.hostReads 0x000) = .next { s with hostData := some s.cmd } ∧
    step (s.hostReads 0x008) = .next { s with hostData := some s.statusWord } ∧
    step (s.hostReads 0x010) = .next { s with hostData := some s.ecause.code } ∧
    step (s.hostReads 0x018) = .next { s with hostData := some s.einfo } ∧
    step (s.hostReads 0x020) = .next { s with hostData := some s.config.word } ∧
    step (s.hostReads 0x028) = .next { s with hostData := some s.n } ∧
    step (s.hostReads 0x038) = .next { s with hostData := some s.irqen.word } ∧
    (off = 0x030 ∨ (0x040 ≤ off ∧ off < 0x060 ∧ off % 8 = 0) ∨ (0x080 ≤ off ∧ off < 0x100 ∧ off % 8 = 0) →
      ∃ t, step (s.hostReads off) = .next t ∧ BlockKept s t ∧
        t.hostData = some (Config.busyRead s.draws) ∧ t.draws = s.draws + 1)

/-- R59: while idle, a read of any register of the map returns its current value and changes no register. -/
def Obligations.IdleReadsReturnTheRegister : Prop :=
  ∀ s : State, s.pending = none →
    step (s.hostReads 0x000) = .next { s with hostData := some s.cmd } ∧
    step (s.hostReads 0x008) = .next { s with hostData := some s.statusWord } ∧
    step (s.hostReads 0x010) = .next { s with hostData := some s.ecause.code } ∧
    step (s.hostReads 0x018) = .next { s with hostData := some s.einfo } ∧
    step (s.hostReads 0x020) = .next { s with hostData := some s.config.word } ∧
    step (s.hostReads 0x028) = .next { s with hostData := some s.n } ∧
    step (s.hostReads 0x030) = .next { s with hostData := some s.cursor } ∧
    step (s.hostReads 0x038) = .next { s with hostData := some s.irqen.word } ∧
    step (s.hostReads 0x040) = .next { s with hostData := some s.counters.cmdcnt } ∧
    step (s.hostReads 0x048) = .next { s with hostData := some s.counters.lkcnt } ∧
    step (s.hostReads 0x050) = .next { s with hostData := some s.counters.fhcnt } ∧
    step (s.hostReads 0x058) = .next { s with hostData := some s.counters.hitcnt } ∧
    (∀ r : Reg,
      (s.w[r.val].loWritten = true →
        step (s.hostReads (0x080 + 16 * r.val)) = .next { s with hostData := some (lo s.w[r.val].val) }) ∧
      (s.w[r.val].hiWritten = true →
        step (s.hostReads (0x088 + 16 * r.val)) = .next { s with hostData := some (hi s.w[r.val].val) }) ∧
      (s.w[r.val].loWritten = false →
        ∃ t, step (s.hostReads (0x080 + 16 * r.val)) = .next t ∧ BlockKept s t ∧ t.unwrittenRead = true) ∧
      (s.w[r.val].hiWritten = false →
        ∃ t, step (s.hostReads (0x088 + 16 * r.val)) = .next t ∧ BlockKept s t ∧ t.unwrittenRead = true))

/-- R61 (and R54's read-only registers): reserved offsets read 0 and ignore writes, at any time, without OVR; so do the
reserved bits of STATUS, CONFIG and IRQEN; and writes of ECAUSE, EINFO and CURSOR are ignored. -/
def Obligations.ReservedOffsetsAndBits : Prop :=
  (∀ (s : State) (off : Nat) (v : Half), off % 8 = 0 → (0x060 ≤ off ∧ off < 0x080 ∨ 0x100 ≤ off ∧ off < 0x1000) →
    step (s.hostReads off) = .next { s with hostData := some 0 } ∧
    step (s.hostWrites off v) = .next s) ∧
  (∀ (s : State) (v : Half), s.pending = none →
    ∃ t, step (s.hostWrites 0x020 v) = .next t ∧ t.config.word = v &&& 0x3#64 ∧ t.status.ovr = s.status.ovr) ∧
  (∀ (s : State) (v : Half),
    ∃ t, step (s.hostWrites 0x038 v) = .next t ∧ t.irqen.word = v &&& 0x3#64 ∧ t.status.ovr = s.status.ovr) ∧
  (∀ (s : State) (v : Half), v &&& 0x1C#64 = 0 → step (s.hostWrites 0x008 v) = .next s) ∧
  (∀ (s : State) (k : Nat), (5 ≤ k ∧ k ≤ 7) ∨ 14 ≤ k → s.statusWord.getLsbD k = false) ∧
  (∀ (s : State) (v : Half),
    step (s.hostWrites 0x010 v) = .next s ∧ step (s.hostWrites 0x018 v) = .next s ∧
    step (s.hostWrites 0x030 v) = .next s)

/-- R52 (93 I4): an access in the window that is not 8 bytes wide or not 8-byte aligned has no step; and R51's window: the
model stops at an address outside it (log entry 13, the model's own). -/
def Obligations.MalformedAccessHasNoStep : Prop :=
  ∀ (s : State) (a : HostAccess), s.turn = .host a →
    (s.params.epxBase ≤ a.addr → a.addr < s.params.epxBase + 4096 →
      (a.size ≠ 8 ∨ (a.addr - s.params.epxBase) % 8 ≠ 0 → step s = .refused .hostAccessForm) ∧
      (a.size = 8 → (a.addr - s.params.epxBase) % 8 = 0 → ∃ t, step s = .next t)) ∧
    (a.addr < s.params.epxBase ∨ s.params.epxBase + 4096 ≤ a.addr → step s = .fault .outsideWindow)

/-- R24 and R25: the bits of STATUS as the host reads it; BUSY says that a command is pending. -/
def Obligations.StatusWordHoldsTheFields : Prop :=
  ∀ s : State,
    (s.statusWord.getLsbD 0 = true ↔ s.pending ≠ none) ∧
    s.statusWord.getLsbD 1 = s.status.built ∧ s.statusWord.getLsbD 2 = s.status.done ∧
    s.statusWord.getLsbD 3 = s.status.err ∧ s.statusWord.getLsbD 4 = s.status.ovr ∧
    s.statusWord.getLsbD 8 = s.status.c ∧ s.statusWord.getLsbD 9 = s.status.v ∧
    s.statusWord.getLsbD 10 = s.status.eq ∧ s.statusWord.getLsbD 11 = s.status.lt ∧
    s.statusWord.getLsbD 12 = s.status.fh ∧ s.statusWord.getLsbD 13 = s.status.hit ∧
    ∀ k, (5 ≤ k ∧ k ≤ 7) ∨ 14 ≤ k → s.statusWord.getLsbD k = false

/-! ### Errors, interrupts and reset (60_exceptions.md, 70_reset_and_hazards.md) -/

/-- R210, R211: while ERR = 1 a CMD write is dropped with OVR and without ECAUSE changing; a host write of a 1 to ERR clears
it and keeps ECAUSE and EINFO; then a CMD write is accepted again, and the failed command is not retried. -/
def Obligations.ErrorRecoveryByStatusWrite : Prop :=
  ∀ (s : State) (v clear : Half), s.status.err = true → s.pending = none → clear.getLsbD 3 = true →
    step (s.hostWrites 0x000 v) = .next { s with status := { s.status with ovr := true } } ∧
    ∃ u, step (s.hostWrites 0x008 clear) = .next u ∧
      u.status.err = false ∧ u.ecause = s.ecause ∧ u.einfo = s.einfo ∧ u.pending = none ∧
      ∃ t, step (u.hostWrites 0x000 v) = .next t ∧
        t.pending = some (v.extractLsb' 0 32) ∧ t.ecause = s.ecause ∧ t.einfo = s.einfo

/-- R215: IRQ, from STATUS and IRQEN as the host reads them. -/
def Obligations.IrqIsDoneOrErrEnabled : Prop :=
  ∀ s : State, s.irq =
    ((s.statusWord.getLsbD 2 && s.irqen.word.getLsbD 0) || (s.statusWord.getLsbD 3 && s.irqen.word.getLsbD 1))

/-- R43: what reset gives every register of the spec, at State.reset and after a reset turn. -/
def Obligations.ResetGivesEveryRegisterItsValue : Prop :=
  ∀ t : State, (t = State.reset ∨ ∃ s : State, s.turn = .reset ∧ step s = .next t) →
    (∀ r : Reg, t.w[r.val].loWritten = false ∧ t.w[r.val].hiWritten = false) ∧
    t.statusWord = 0 ∧ t.config.word = 0 ∧ t.n = 0 ∧ t.cursor = 0 ∧ t.ecause.code = 0 ∧ t.einfo = 0 ∧
    t.irqen.word = 0 ∧ t.cmd = 0 ∧ t.counters = { cmdcnt := 0, lkcnt := 0, fhcnt := 0, hitcnt := 0 } ∧
    t.pending = none ∧ t.irq = false

/-- R240: in the reset turn a pending command is abandoned, and nothing but the reset state comes of it; what is not the
block's state stays (log entry 17, the model's own). -/
def Obligations.ResetTurnAbandonsThePendingCommand : Prop :=
  ∀ s : State, s.turn = .reset → ∃ t, step s = .next t ∧
    t.pending = none ∧ t.status.done = false ∧ t.status.built = false ∧ t.status.err = false ∧
    t.counters.cmdcnt = 0 ∧ t.params = s.params ∧ t.schedule = s.schedule.tail ∧
    t.unwrittenRead = s.unwrittenRead

/-! ### Rules over every step -/

/-- R143 item 6, R71: only a BUILD, or reset, changes what PT and FB read as. -/
def Obligations.OnlyBuildWritesTheTables : Prop :=
  ∀ s t : State, step s = .next t → s.turn ≠ .reset →
    ¬ (s.turn = .block ∧ s.pending = some 0x80000000#32) → TablesKept s t

/-- R26: BUILT is set only by the completion of a BUILD, and cleared only by reset or an idle host write of CONFIG or N. -/
def Obligations.BuiltChangesOnlyByBuildConfigNAndReset : Prop :=
  ∀ s t : State, step s = .next t →
    (s.status.built = false → t.status.built = true →
      s.turn = .block ∧ s.pending = some 0x80000000#32 ∧ t.counters.cmdcnt = s.counters.cmdcnt + 1) ∧
    (s.status.built = true → t.status.built = false →
      s.turn = .reset ∨
      ∃ off v, s.turn = .host (.write (s.params.epxBase + off) 8 v) ∧ (off = 0x020 ∨ off = 0x028) ∧
        s.pending = none)

/-- R27: DONE, ERR and OVR, once set, fall only by a host write of a 1 to that bit of STATUS, or by reset. -/
def Obligations.StickyBitsFallOnlyByWriteOrReset : Prop :=
  ∀ s t : State, step s = .next t → s.turn ≠ .reset →
    (s.status.done = true → t.status.done = false →
      ∃ v, s.turn = .host (.write (s.params.epxBase + 0x008) 8 v) ∧ v.getLsbD 2 = true) ∧
    (s.status.err = true → t.status.err = false →
      ∃ v, s.turn = .host (.write (s.params.epxBase + 0x008) 8 v) ∧ v.getLsbD 3 = true) ∧
    (s.status.ovr = true → t.status.ovr = false →
      ∃ v, s.turn = .host (.write (s.params.epxBase + 0x008) 8 v) ∧ v.getLsbD 4 = true)

/-- What R262 says, for every finite number of host steps: a pending command completes in the block's step after them. -/
def Obligations.PendingCommandCompletesAfterTheHostsSteps : Prop :=
  ∀ (s : State) (word : CommandWord), s.pending = some word →
    (∀ u ∈ s.schedule, ∃ a : HostAccess, u = .host a ∧ a.wellFormed s.params.epxBase = true) →
    ∃ t : State, Host.Core.run Sys2Proof.core (s.schedule.length + 1) s = .next t ∧
      t.pending = none ∧ t.status.done = true ∧ t.schedule = []

/-- What R42 derives, at reset. -/
def Obligations.InvariantHoldsAtReset : Prop := Inv State.reset

/-- What R42 derives, kept by every step from every state that has it. -/
def Obligations.InvariantIsKeptByEveryStep : Prop :=
  ∀ s t : State, Inv s → step s = .next t → Inv t
end

