-- ==== Sys2Proof/Laws/PerInstr.lean ====
section
/-! SUPPORT. Statements made for every command, constructor by constructor. MatchesRow: the command's word has its row's
match bits under its row's mask (30_encoding.md R87). -/

namespace Sys2Proof.Laws.MatchesRow

-- Kernel checks one after another: side by side, their threads' stacks reserve too much memory.
set_option Elab.async false

/-- R87: `(x & mask_m) = match_m` for the word `x` of a command of row m. -/
def Statement (i : Instr) : Prop := encode i &&& i.mnemonic.mask = i.mnemonic.matchBits

theorem nop : Statement .nop := by unfold Statement; decide

theorem li (rd : Reg) (imm17 : BitVec 17) : Statement (.li rd imm17) := by
  apply BitVec.eq_of_getLsbD_eq
  intro k hk
  simp only [encode, wordOf, Instr.fields, Instr.mnemonic, Mnemonic.opcode, Mnemonic.mask, Mnemonic.matchBits,
    BitVec.getLsbD_and, BitVec.getLsbD_append]
  interval_cases k <;> simp

theorem mov (rd rs1 : Reg) : Statement (.mov rd rs1) := by
  unfold Statement; revert rd rs1; decide +kernel

theorem add (rd rs1 rs2 : Reg) : Statement (.add rd rs1 rs2) := by
  unfold Statement; revert rd rs1 rs2; decide +kernel

theorem mul (rd rs1 rs2 : Reg) : Statement (.mul rd rs1 rs2) := by
  unfold Statement; revert rd rs1 rs2; decide +kernel

theorem mulll (rd rs1 rs2 : Reg) : Statement (.mulll rd rs1 rs2) := by
  unfold Statement; revert rd rs1 rs2; decide +kernel

theorem pow5 (rd rs1 : Reg) : Statement (.pow5 rd rs1) := by
  unfold Statement; revert rd rs1; decide +kernel

theorem cmp (rs1 rs2 : Reg) : Statement (.cmp rs1 rs2) := by
  unfold Statement; revert rs1 rs2; decide +kernel

theorem fold16 (rd rs1 : Reg) : Statement (.fold16 rd rs1) := by
  unfold Statement; revert rd rs1; decide +kernel

theorem fold32 (rd rs1 : Reg) : Statement (.fold32 rd rs1) := by
  unfold Statement; revert rd rs1; decide +kernel

theorem fold64 (rd rs1 : Reg) : Statement (.fold64 rd rs1) := by
  unfold Statement; revert rd rs1; decide +kernel

theorem build : Statement .build := by unfold Statement; decide

theorem ldp (rd rs1 : Reg) : Statement (.ldp rd rs1) := by
  unfold Statement; revert rd rs1; decide +kernel

theorem lookup (rd rs1 : Reg) : Statement (.lookup rd rs1) := by
  unfold Statement; revert rd rs1; decide +kernel

theorem fprobe (rs1 : Reg) : Statement (.fprobe rs1) := by
  unfold Statement; revert rs1; decide +kernel

theorem setcur (rs1 : Reg) : Statement (.setcur rs1) := by
  unfold Statement; revert rs1; decide +kernel

end Sys2Proof.Laws.MatchesRow
end

