-- ==== Sys2Proof/Laws/State.lean ====
section
/-! SUPPORT. The fields of State after each named operation of Machine/Ops.lean: one lemma per field per operation. -/

namespace Sys2Proof.Machine

/-! ### State.updStatus -/

@[simp] theorem State.updStatus_w (s : State) (f : Status → Status) : (s.updStatus f).w = s.w := rfl
@[simp] theorem State.updStatus_status (s : State) (f : Status → Status) : (s.updStatus f).status = f s.status := rfl
@[simp] theorem State.updStatus_config (s : State) (f : Status → Status) : (s.updStatus f).config = s.config := rfl
@[simp] theorem State.updStatus_n (s : State) (f : Status → Status) : (s.updStatus f).n = s.n := rfl
@[simp] theorem State.updStatus_pt (s : State) (f : Status → Status) : (s.updStatus f).pt = s.pt := rfl
@[simp] theorem State.updStatus_fb (s : State) (f : Status → Status) : (s.updStatus f).fb = s.fb := rfl
@[simp] theorem State.updStatus_cursor (s : State) (f : Status → Status) : (s.updStatus f).cursor = s.cursor := rfl
@[simp] theorem State.updStatus_ecause (s : State) (f : Status → Status) : (s.updStatus f).ecause = s.ecause := rfl
@[simp] theorem State.updStatus_einfo (s : State) (f : Status → Status) : (s.updStatus f).einfo = s.einfo := rfl
@[simp] theorem State.updStatus_irqen (s : State) (f : Status → Status) : (s.updStatus f).irqen = s.irqen := rfl
@[simp] theorem State.updStatus_cmd (s : State) (f : Status → Status) : (s.updStatus f).cmd = s.cmd := rfl
@[simp] theorem State.updStatus_counters (s : State) (f : Status → Status) : (s.updStatus f).counters = s.counters := rfl
@[simp] theorem State.updStatus_pending (s : State) (f : Status → Status) : (s.updStatus f).pending = s.pending := rfl
@[simp] theorem State.updStatus_params (s : State) (f : Status → Status) : (s.updStatus f).params = s.params := rfl
@[simp] theorem State.updStatus_schedule (s : State) (f : Status → Status) : (s.updStatus f).schedule = s.schedule := rfl
@[simp] theorem State.updStatus_hostData (s : State) (f : Status → Status) : (s.updStatus f).hostData = s.hostData := rfl
@[simp] theorem State.updStatus_unwrittenRead (s : State) (f : Status → Status) : (s.updStatus f).unwrittenRead = s.unwrittenRead := rfl
@[simp] theorem State.updStatus_draws (s : State) (f : Status → Status) : (s.updStatus f).draws = s.draws := rfl
@[simp] theorem State.updStatus_resets (s : State) (f : Status → Status) : (s.updStatus f).resets = s.resets := rfl

/-! ### State.updCounters -/

@[simp] theorem State.updCounters_w (s : State) (f : Counters → Counters) : (s.updCounters f).w = s.w := rfl
@[simp] theorem State.updCounters_status (s : State) (f : Counters → Counters) : (s.updCounters f).status = s.status := rfl
@[simp] theorem State.updCounters_config (s : State) (f : Counters → Counters) : (s.updCounters f).config = s.config := rfl
@[simp] theorem State.updCounters_n (s : State) (f : Counters → Counters) : (s.updCounters f).n = s.n := rfl
@[simp] theorem State.updCounters_pt (s : State) (f : Counters → Counters) : (s.updCounters f).pt = s.pt := rfl
@[simp] theorem State.updCounters_fb (s : State) (f : Counters → Counters) : (s.updCounters f).fb = s.fb := rfl
@[simp] theorem State.updCounters_cursor (s : State) (f : Counters → Counters) : (s.updCounters f).cursor = s.cursor := rfl
@[simp] theorem State.updCounters_ecause (s : State) (f : Counters → Counters) : (s.updCounters f).ecause = s.ecause := rfl
@[simp] theorem State.updCounters_einfo (s : State) (f : Counters → Counters) : (s.updCounters f).einfo = s.einfo := rfl
@[simp] theorem State.updCounters_irqen (s : State) (f : Counters → Counters) : (s.updCounters f).irqen = s.irqen := rfl
@[simp] theorem State.updCounters_cmd (s : State) (f : Counters → Counters) : (s.updCounters f).cmd = s.cmd := rfl
@[simp] theorem State.updCounters_counters (s : State) (f : Counters → Counters) : (s.updCounters f).counters = f s.counters := rfl
@[simp] theorem State.updCounters_pending (s : State) (f : Counters → Counters) : (s.updCounters f).pending = s.pending := rfl
@[simp] theorem State.updCounters_params (s : State) (f : Counters → Counters) : (s.updCounters f).params = s.params := rfl
@[simp] theorem State.updCounters_schedule (s : State) (f : Counters → Counters) : (s.updCounters f).schedule = s.schedule := rfl
@[simp] theorem State.updCounters_hostData (s : State) (f : Counters → Counters) : (s.updCounters f).hostData = s.hostData := rfl
@[simp] theorem State.updCounters_unwrittenRead (s : State) (f : Counters → Counters) : (s.updCounters f).unwrittenRead = s.unwrittenRead := rfl
@[simp] theorem State.updCounters_draws (s : State) (f : Counters → Counters) : (s.updCounters f).draws = s.draws := rfl
@[simp] theorem State.updCounters_resets (s : State) (f : Counters → Counters) : (s.updCounters f).resets = s.resets := rfl

/-! ### State.noteHalf -/

@[simp] theorem State.noteHalf_w (s : State) (m : Bool) : (s.noteHalf m).w = s.w := rfl
@[simp] theorem State.noteHalf_status (s : State) (m : Bool) : (s.noteHalf m).status = s.status := rfl
@[simp] theorem State.noteHalf_config (s : State) (m : Bool) : (s.noteHalf m).config = s.config := rfl
@[simp] theorem State.noteHalf_n (s : State) (m : Bool) : (s.noteHalf m).n = s.n := rfl
@[simp] theorem State.noteHalf_pt (s : State) (m : Bool) : (s.noteHalf m).pt = s.pt := rfl
@[simp] theorem State.noteHalf_fb (s : State) (m : Bool) : (s.noteHalf m).fb = s.fb := rfl
@[simp] theorem State.noteHalf_cursor (s : State) (m : Bool) : (s.noteHalf m).cursor = s.cursor := rfl
@[simp] theorem State.noteHalf_ecause (s : State) (m : Bool) : (s.noteHalf m).ecause = s.ecause := rfl
@[simp] theorem State.noteHalf_einfo (s : State) (m : Bool) : (s.noteHalf m).einfo = s.einfo := rfl
@[simp] theorem State.noteHalf_irqen (s : State) (m : Bool) : (s.noteHalf m).irqen = s.irqen := rfl
@[simp] theorem State.noteHalf_cmd (s : State) (m : Bool) : (s.noteHalf m).cmd = s.cmd := rfl
@[simp] theorem State.noteHalf_counters (s : State) (m : Bool) : (s.noteHalf m).counters = s.counters := rfl
@[simp] theorem State.noteHalf_pending (s : State) (m : Bool) : (s.noteHalf m).pending = s.pending := rfl
@[simp] theorem State.noteHalf_params (s : State) (m : Bool) : (s.noteHalf m).params = s.params := rfl
@[simp] theorem State.noteHalf_schedule (s : State) (m : Bool) : (s.noteHalf m).schedule = s.schedule := rfl
@[simp] theorem State.noteHalf_hostData (s : State) (m : Bool) : (s.noteHalf m).hostData = s.hostData := rfl
@[simp] theorem State.noteHalf_unwrittenRead (s : State) (m : Bool) : (s.noteHalf m).unwrittenRead = (s.unwrittenRead || !m) := rfl
@[simp] theorem State.noteHalf_draws (s : State) (m : Bool) : (s.noteHalf m).draws = s.draws := rfl
@[simp] theorem State.noteHalf_resets (s : State) (m : Bool) : (s.noteHalf m).resets = s.resets := rfl

/-! ### State.noteRead -/

@[simp] theorem State.noteRead_w (s : State) (r : Reg) : (s.noteRead r).w = s.w := rfl
@[simp] theorem State.noteRead_status (s : State) (r : Reg) : (s.noteRead r).status = s.status := rfl
@[simp] theorem State.noteRead_config (s : State) (r : Reg) : (s.noteRead r).config = s.config := rfl
@[simp] theorem State.noteRead_n (s : State) (r : Reg) : (s.noteRead r).n = s.n := rfl
@[simp] theorem State.noteRead_pt (s : State) (r : Reg) : (s.noteRead r).pt = s.pt := rfl
@[simp] theorem State.noteRead_fb (s : State) (r : Reg) : (s.noteRead r).fb = s.fb := rfl
@[simp] theorem State.noteRead_cursor (s : State) (r : Reg) : (s.noteRead r).cursor = s.cursor := rfl
@[simp] theorem State.noteRead_ecause (s : State) (r : Reg) : (s.noteRead r).ecause = s.ecause := rfl
@[simp] theorem State.noteRead_einfo (s : State) (r : Reg) : (s.noteRead r).einfo = s.einfo := rfl
@[simp] theorem State.noteRead_irqen (s : State) (r : Reg) : (s.noteRead r).irqen = s.irqen := rfl
@[simp] theorem State.noteRead_cmd (s : State) (r : Reg) : (s.noteRead r).cmd = s.cmd := rfl
@[simp] theorem State.noteRead_counters (s : State) (r : Reg) : (s.noteRead r).counters = s.counters := rfl
@[simp] theorem State.noteRead_pending (s : State) (r : Reg) : (s.noteRead r).pending = s.pending := rfl
@[simp] theorem State.noteRead_params (s : State) (r : Reg) : (s.noteRead r).params = s.params := rfl
@[simp] theorem State.noteRead_schedule (s : State) (r : Reg) : (s.noteRead r).schedule = s.schedule := rfl
@[simp] theorem State.noteRead_hostData (s : State) (r : Reg) : (s.noteRead r).hostData = s.hostData := rfl
@[simp] theorem State.noteRead_unwrittenRead (s : State) (r : Reg) : (s.noteRead r).unwrittenRead = (s.unwrittenRead || !s.written r) := rfl
@[simp] theorem State.noteRead_draws (s : State) (r : Reg) : (s.noteRead r).draws = s.draws := rfl
@[simp] theorem State.noteRead_resets (s : State) (r : Reg) : (s.noteRead r).resets = s.resets := rfl

/-! ### State.setW -/

@[simp] theorem State.setW_w (s : State) (r : Reg) (v : Wide) : (s.setW r v).w = s.w.set r.val { val := v, loWritten := true, hiWritten := true } := rfl
@[simp] theorem State.setW_status (s : State) (r : Reg) (v : Wide) : (s.setW r v).status = s.status := rfl
@[simp] theorem State.setW_config (s : State) (r : Reg) (v : Wide) : (s.setW r v).config = s.config := rfl
@[simp] theorem State.setW_n (s : State) (r : Reg) (v : Wide) : (s.setW r v).n = s.n := rfl
@[simp] theorem State.setW_pt (s : State) (r : Reg) (v : Wide) : (s.setW r v).pt = s.pt := rfl
@[simp] theorem State.setW_fb (s : State) (r : Reg) (v : Wide) : (s.setW r v).fb = s.fb := rfl
@[simp] theorem State.setW_cursor (s : State) (r : Reg) (v : Wide) : (s.setW r v).cursor = s.cursor := rfl
@[simp] theorem State.setW_ecause (s : State) (r : Reg) (v : Wide) : (s.setW r v).ecause = s.ecause := rfl
@[simp] theorem State.setW_einfo (s : State) (r : Reg) (v : Wide) : (s.setW r v).einfo = s.einfo := rfl
@[simp] theorem State.setW_irqen (s : State) (r : Reg) (v : Wide) : (s.setW r v).irqen = s.irqen := rfl
@[simp] theorem State.setW_cmd (s : State) (r : Reg) (v : Wide) : (s.setW r v).cmd = s.cmd := rfl
@[simp] theorem State.setW_counters (s : State) (r : Reg) (v : Wide) : (s.setW r v).counters = s.counters := rfl
@[simp] theorem State.setW_pending (s : State) (r : Reg) (v : Wide) : (s.setW r v).pending = s.pending := rfl
@[simp] theorem State.setW_params (s : State) (r : Reg) (v : Wide) : (s.setW r v).params = s.params := rfl
@[simp] theorem State.setW_schedule (s : State) (r : Reg) (v : Wide) : (s.setW r v).schedule = s.schedule := rfl
@[simp] theorem State.setW_hostData (s : State) (r : Reg) (v : Wide) : (s.setW r v).hostData = s.hostData := rfl
@[simp] theorem State.setW_unwrittenRead (s : State) (r : Reg) (v : Wide) : (s.setW r v).unwrittenRead = s.unwrittenRead := rfl
@[simp] theorem State.setW_draws (s : State) (r : Reg) (v : Wide) : (s.setW r v).draws = s.draws := rfl
@[simp] theorem State.setW_resets (s : State) (r : Reg) (v : Wide) : (s.setW r v).resets = s.resets := rfl

/-! ### State.setLo -/

@[simp] theorem State.setLo_w (s : State) (r : Reg) (v : Half) : (s.setLo r v).w = s.w.set r.val { s.w[r.val] with val := pair (hi s.w[r.val].val) v, loWritten := true } := rfl
@[simp] theorem State.setLo_status (s : State) (r : Reg) (v : Half) : (s.setLo r v).status = s.status := rfl
@[simp] theorem State.setLo_config (s : State) (r : Reg) (v : Half) : (s.setLo r v).config = s.config := rfl
@[simp] theorem State.setLo_n (s : State) (r : Reg) (v : Half) : (s.setLo r v).n = s.n := rfl
@[simp] theorem State.setLo_pt (s : State) (r : Reg) (v : Half) : (s.setLo r v).pt = s.pt := rfl
@[simp] theorem State.setLo_fb (s : State) (r : Reg) (v : Half) : (s.setLo r v).fb = s.fb := rfl
@[simp] theorem State.setLo_cursor (s : State) (r : Reg) (v : Half) : (s.setLo r v).cursor = s.cursor := rfl
@[simp] theorem State.setLo_ecause (s : State) (r : Reg) (v : Half) : (s.setLo r v).ecause = s.ecause := rfl
@[simp] theorem State.setLo_einfo (s : State) (r : Reg) (v : Half) : (s.setLo r v).einfo = s.einfo := rfl
@[simp] theorem State.setLo_irqen (s : State) (r : Reg) (v : Half) : (s.setLo r v).irqen = s.irqen := rfl
@[simp] theorem State.setLo_cmd (s : State) (r : Reg) (v : Half) : (s.setLo r v).cmd = s.cmd := rfl
@[simp] theorem State.setLo_counters (s : State) (r : Reg) (v : Half) : (s.setLo r v).counters = s.counters := rfl
@[simp] theorem State.setLo_pending (s : State) (r : Reg) (v : Half) : (s.setLo r v).pending = s.pending := rfl
@[simp] theorem State.setLo_params (s : State) (r : Reg) (v : Half) : (s.setLo r v).params = s.params := rfl
@[simp] theorem State.setLo_schedule (s : State) (r : Reg) (v : Half) : (s.setLo r v).schedule = s.schedule := rfl
@[simp] theorem State.setLo_hostData (s : State) (r : Reg) (v : Half) : (s.setLo r v).hostData = s.hostData := rfl
@[simp] theorem State.setLo_unwrittenRead (s : State) (r : Reg) (v : Half) : (s.setLo r v).unwrittenRead = s.unwrittenRead := rfl
@[simp] theorem State.setLo_draws (s : State) (r : Reg) (v : Half) : (s.setLo r v).draws = s.draws := rfl
@[simp] theorem State.setLo_resets (s : State) (r : Reg) (v : Half) : (s.setLo r v).resets = s.resets := rfl

/-! ### State.setHi -/

@[simp] theorem State.setHi_w (s : State) (r : Reg) (v : Half) : (s.setHi r v).w = s.w.set r.val { s.w[r.val] with val := pair v (lo s.w[r.val].val), hiWritten := true } := rfl
@[simp] theorem State.setHi_status (s : State) (r : Reg) (v : Half) : (s.setHi r v).status = s.status := rfl
@[simp] theorem State.setHi_config (s : State) (r : Reg) (v : Half) : (s.setHi r v).config = s.config := rfl
@[simp] theorem State.setHi_n (s : State) (r : Reg) (v : Half) : (s.setHi r v).n = s.n := rfl
@[simp] theorem State.setHi_pt (s : State) (r : Reg) (v : Half) : (s.setHi r v).pt = s.pt := rfl
@[simp] theorem State.setHi_fb (s : State) (r : Reg) (v : Half) : (s.setHi r v).fb = s.fb := rfl
@[simp] theorem State.setHi_cursor (s : State) (r : Reg) (v : Half) : (s.setHi r v).cursor = s.cursor := rfl
@[simp] theorem State.setHi_ecause (s : State) (r : Reg) (v : Half) : (s.setHi r v).ecause = s.ecause := rfl
@[simp] theorem State.setHi_einfo (s : State) (r : Reg) (v : Half) : (s.setHi r v).einfo = s.einfo := rfl
@[simp] theorem State.setHi_irqen (s : State) (r : Reg) (v : Half) : (s.setHi r v).irqen = s.irqen := rfl
@[simp] theorem State.setHi_cmd (s : State) (r : Reg) (v : Half) : (s.setHi r v).cmd = s.cmd := rfl
@[simp] theorem State.setHi_counters (s : State) (r : Reg) (v : Half) : (s.setHi r v).counters = s.counters := rfl
@[simp] theorem State.setHi_pending (s : State) (r : Reg) (v : Half) : (s.setHi r v).pending = s.pending := rfl
@[simp] theorem State.setHi_params (s : State) (r : Reg) (v : Half) : (s.setHi r v).params = s.params := rfl
@[simp] theorem State.setHi_schedule (s : State) (r : Reg) (v : Half) : (s.setHi r v).schedule = s.schedule := rfl
@[simp] theorem State.setHi_hostData (s : State) (r : Reg) (v : Half) : (s.setHi r v).hostData = s.hostData := rfl
@[simp] theorem State.setHi_unwrittenRead (s : State) (r : Reg) (v : Half) : (s.setHi r v).unwrittenRead = s.unwrittenRead := rfl
@[simp] theorem State.setHi_draws (s : State) (r : Reg) (v : Half) : (s.setHi r v).draws = s.draws := rfl
@[simp] theorem State.setHi_resets (s : State) (r : Reg) (v : Half) : (s.setHi r v).resets = s.resets := rfl

/-! ### State.setCursor -/

@[simp] theorem State.setCursor_w (s : State) (v : Half) : (s.setCursor v).w = s.w := rfl
@[simp] theorem State.setCursor_status (s : State) (v : Half) : (s.setCursor v).status = s.status := rfl
@[simp] theorem State.setCursor_config (s : State) (v : Half) : (s.setCursor v).config = s.config := rfl
@[simp] theorem State.setCursor_n (s : State) (v : Half) : (s.setCursor v).n = s.n := rfl
@[simp] theorem State.setCursor_pt (s : State) (v : Half) : (s.setCursor v).pt = s.pt := rfl
@[simp] theorem State.setCursor_fb (s : State) (v : Half) : (s.setCursor v).fb = s.fb := rfl
@[simp] theorem State.setCursor_cursor (s : State) (v : Half) : (s.setCursor v).cursor = v := rfl
@[simp] theorem State.setCursor_ecause (s : State) (v : Half) : (s.setCursor v).ecause = s.ecause := rfl
@[simp] theorem State.setCursor_einfo (s : State) (v : Half) : (s.setCursor v).einfo = s.einfo := rfl
@[simp] theorem State.setCursor_irqen (s : State) (v : Half) : (s.setCursor v).irqen = s.irqen := rfl
@[simp] theorem State.setCursor_cmd (s : State) (v : Half) : (s.setCursor v).cmd = s.cmd := rfl
@[simp] theorem State.setCursor_counters (s : State) (v : Half) : (s.setCursor v).counters = s.counters := rfl
@[simp] theorem State.setCursor_pending (s : State) (v : Half) : (s.setCursor v).pending = s.pending := rfl
@[simp] theorem State.setCursor_params (s : State) (v : Half) : (s.setCursor v).params = s.params := rfl
@[simp] theorem State.setCursor_schedule (s : State) (v : Half) : (s.setCursor v).schedule = s.schedule := rfl
@[simp] theorem State.setCursor_hostData (s : State) (v : Half) : (s.setCursor v).hostData = s.hostData := rfl
@[simp] theorem State.setCursor_unwrittenRead (s : State) (v : Half) : (s.setCursor v).unwrittenRead = s.unwrittenRead := rfl
@[simp] theorem State.setCursor_draws (s : State) (v : Half) : (s.setCursor v).draws = s.draws := rfl
@[simp] theorem State.setCursor_resets (s : State) (v : Half) : (s.setCursor v).resets = s.resets := rfl

/-! ### State.setTables -/

@[simp] theorem State.setTables_w (s : State) (l : List Wide) (b : Filter) : (s.setTables l b).w = s.w := rfl
@[simp] theorem State.setTables_status (s : State) (l : List Wide) (b : Filter) : (s.setTables l b).status = s.status := rfl
@[simp] theorem State.setTables_config (s : State) (l : List Wide) (b : Filter) : (s.setTables l b).config = s.config := rfl
@[simp] theorem State.setTables_n (s : State) (l : List Wide) (b : Filter) : (s.setTables l b).n = s.n := rfl
@[simp] theorem State.setTables_pt (s : State) (l : List Wide) (b : Filter) : (s.setTables l b).pt = l := rfl
@[simp] theorem State.setTables_fb (s : State) (l : List Wide) (b : Filter) : (s.setTables l b).fb = b := rfl
@[simp] theorem State.setTables_cursor (s : State) (l : List Wide) (b : Filter) : (s.setTables l b).cursor = s.cursor := rfl
@[simp] theorem State.setTables_ecause (s : State) (l : List Wide) (b : Filter) : (s.setTables l b).ecause = s.ecause := rfl
@[simp] theorem State.setTables_einfo (s : State) (l : List Wide) (b : Filter) : (s.setTables l b).einfo = s.einfo := rfl
@[simp] theorem State.setTables_irqen (s : State) (l : List Wide) (b : Filter) : (s.setTables l b).irqen = s.irqen := rfl
@[simp] theorem State.setTables_cmd (s : State) (l : List Wide) (b : Filter) : (s.setTables l b).cmd = s.cmd := rfl
@[simp] theorem State.setTables_counters (s : State) (l : List Wide) (b : Filter) : (s.setTables l b).counters = s.counters := rfl
@[simp] theorem State.setTables_pending (s : State) (l : List Wide) (b : Filter) : (s.setTables l b).pending = s.pending := rfl
@[simp] theorem State.setTables_params (s : State) (l : List Wide) (b : Filter) : (s.setTables l b).params = s.params := rfl
@[simp] theorem State.setTables_schedule (s : State) (l : List Wide) (b : Filter) : (s.setTables l b).schedule = s.schedule := rfl
@[simp] theorem State.setTables_hostData (s : State) (l : List Wide) (b : Filter) : (s.setTables l b).hostData = s.hostData := rfl
@[simp] theorem State.setTables_unwrittenRead (s : State) (l : List Wide) (b : Filter) : (s.setTables l b).unwrittenRead = s.unwrittenRead := rfl
@[simp] theorem State.setTables_draws (s : State) (l : List Wide) (b : Filter) : (s.setTables l b).draws = s.draws := rfl
@[simp] theorem State.setTables_resets (s : State) (l : List Wide) (b : Filter) : (s.setTables l b).resets = s.resets := rfl

/-! ### State.succeed -/

@[simp] theorem State.succeed_w (s : State) : (s.succeed).w = s.w := rfl
@[simp] theorem State.succeed_status (s : State) : (s.succeed).status = s.status.setDone := rfl
@[simp] theorem State.succeed_config (s : State) : (s.succeed).config = s.config := rfl
@[simp] theorem State.succeed_n (s : State) : (s.succeed).n = s.n := rfl
@[simp] theorem State.succeed_pt (s : State) : (s.succeed).pt = s.pt := rfl
@[simp] theorem State.succeed_fb (s : State) : (s.succeed).fb = s.fb := rfl
@[simp] theorem State.succeed_cursor (s : State) : (s.succeed).cursor = s.cursor := rfl
@[simp] theorem State.succeed_ecause (s : State) : (s.succeed).ecause = s.ecause := rfl
@[simp] theorem State.succeed_einfo (s : State) : (s.succeed).einfo = s.einfo := rfl
@[simp] theorem State.succeed_irqen (s : State) : (s.succeed).irqen = s.irqen := rfl
@[simp] theorem State.succeed_cmd (s : State) : (s.succeed).cmd = s.cmd := rfl
@[simp] theorem State.succeed_counters (s : State) : (s.succeed).counters = s.counters.countCommand := rfl
@[simp] theorem State.succeed_pending (s : State) : (s.succeed).pending = none := rfl
@[simp] theorem State.succeed_params (s : State) : (s.succeed).params = s.params := rfl
@[simp] theorem State.succeed_schedule (s : State) : (s.succeed).schedule = s.schedule := rfl
@[simp] theorem State.succeed_hostData (s : State) : (s.succeed).hostData = s.hostData := rfl
@[simp] theorem State.succeed_unwrittenRead (s : State) : (s.succeed).unwrittenRead = s.unwrittenRead := rfl
@[simp] theorem State.succeed_draws (s : State) : (s.succeed).draws = s.draws := rfl
@[simp] theorem State.succeed_resets (s : State) : (s.succeed).resets = s.resets := rfl

/-! ### State.raiseError -/

@[simp] theorem State.raiseError_w (s : State) (c : Cause) : (s.raiseError c).w = s.w := rfl
@[simp] theorem State.raiseError_status (s : State) (c : Cause) : (s.raiseError c).status = s.status.setError := rfl
@[simp] theorem State.raiseError_config (s : State) (c : Cause) : (s.raiseError c).config = s.config := rfl
@[simp] theorem State.raiseError_n (s : State) (c : Cause) : (s.raiseError c).n = s.n := rfl
@[simp] theorem State.raiseError_pt (s : State) (c : Cause) : (s.raiseError c).pt = s.pt := rfl
@[simp] theorem State.raiseError_fb (s : State) (c : Cause) : (s.raiseError c).fb = s.fb := rfl
@[simp] theorem State.raiseError_cursor (s : State) (c : Cause) : (s.raiseError c).cursor = s.cursor := rfl
@[simp] theorem State.raiseError_ecause (s : State) (c : Cause) : (s.raiseError c).ecause = c := rfl
@[simp] theorem State.raiseError_einfo (s : State) (c : Cause) : (s.raiseError c).einfo = zext64 s.word := rfl
@[simp] theorem State.raiseError_irqen (s : State) (c : Cause) : (s.raiseError c).irqen = s.irqen := rfl
@[simp] theorem State.raiseError_cmd (s : State) (c : Cause) : (s.raiseError c).cmd = s.cmd := rfl
@[simp] theorem State.raiseError_counters (s : State) (c : Cause) : (s.raiseError c).counters = s.counters := rfl
@[simp] theorem State.raiseError_pending (s : State) (c : Cause) : (s.raiseError c).pending = none := rfl
@[simp] theorem State.raiseError_params (s : State) (c : Cause) : (s.raiseError c).params = s.params := rfl
@[simp] theorem State.raiseError_schedule (s : State) (c : Cause) : (s.raiseError c).schedule = s.schedule := rfl
@[simp] theorem State.raiseError_hostData (s : State) (c : Cause) : (s.raiseError c).hostData = s.hostData := rfl
@[simp] theorem State.raiseError_unwrittenRead (s : State) (c : Cause) : (s.raiseError c).unwrittenRead = s.unwrittenRead := rfl
@[simp] theorem State.raiseError_draws (s : State) (c : Cause) : (s.raiseError c).draws = s.draws := rfl
@[simp] theorem State.raiseError_resets (s : State) (c : Cause) : (s.raiseError c).resets = s.resets := rfl

/-! ### State.accept -/

@[simp] theorem State.accept_w (s : State) (x : CommandWord) : (s.accept x).w = s.w := rfl
@[simp] theorem State.accept_status (s : State) (x : CommandWord) : (s.accept x).status = s.status := rfl
@[simp] theorem State.accept_config (s : State) (x : CommandWord) : (s.accept x).config = s.config := rfl
@[simp] theorem State.accept_n (s : State) (x : CommandWord) : (s.accept x).n = s.n := rfl
@[simp] theorem State.accept_pt (s : State) (x : CommandWord) : (s.accept x).pt = s.pt := rfl
@[simp] theorem State.accept_fb (s : State) (x : CommandWord) : (s.accept x).fb = s.fb := rfl
@[simp] theorem State.accept_cursor (s : State) (x : CommandWord) : (s.accept x).cursor = s.cursor := rfl
@[simp] theorem State.accept_ecause (s : State) (x : CommandWord) : (s.accept x).ecause = s.ecause := rfl
@[simp] theorem State.accept_einfo (s : State) (x : CommandWord) : (s.accept x).einfo = s.einfo := rfl
@[simp] theorem State.accept_irqen (s : State) (x : CommandWord) : (s.accept x).irqen = s.irqen := rfl
@[simp] theorem State.accept_cmd (s : State) (x : CommandWord) : (s.accept x).cmd = zext64 x := rfl
@[simp] theorem State.accept_counters (s : State) (x : CommandWord) : (s.accept x).counters = s.counters := rfl
@[simp] theorem State.accept_pending (s : State) (x : CommandWord) : (s.accept x).pending = some x := rfl
@[simp] theorem State.accept_params (s : State) (x : CommandWord) : (s.accept x).params = s.params := rfl
@[simp] theorem State.accept_schedule (s : State) (x : CommandWord) : (s.accept x).schedule = s.schedule := rfl
@[simp] theorem State.accept_hostData (s : State) (x : CommandWord) : (s.accept x).hostData = s.hostData := rfl
@[simp] theorem State.accept_unwrittenRead (s : State) (x : CommandWord) : (s.accept x).unwrittenRead = s.unwrittenRead := rfl
@[simp] theorem State.accept_draws (s : State) (x : CommandWord) : (s.accept x).draws = s.draws := rfl
@[simp] theorem State.accept_resets (s : State) (x : CommandWord) : (s.accept x).resets = s.resets := rfl

/-! ### State.unbuild -/

@[simp] theorem State.unbuild_w (s : State) : (s.unbuild).w = s.w := rfl
@[simp] theorem State.unbuild_status (s : State) : (s.unbuild).status = s.status.setBuilt false := rfl
@[simp] theorem State.unbuild_config (s : State) : (s.unbuild).config = s.config := rfl
@[simp] theorem State.unbuild_n (s : State) : (s.unbuild).n = s.n := rfl
@[simp] theorem State.unbuild_pt (s : State) : (s.unbuild).pt = s.pt := rfl
@[simp] theorem State.unbuild_fb (s : State) : (s.unbuild).fb = s.fb := rfl
@[simp] theorem State.unbuild_cursor (s : State) : (s.unbuild).cursor = 0 := rfl
@[simp] theorem State.unbuild_ecause (s : State) : (s.unbuild).ecause = s.ecause := rfl
@[simp] theorem State.unbuild_einfo (s : State) : (s.unbuild).einfo = s.einfo := rfl
@[simp] theorem State.unbuild_irqen (s : State) : (s.unbuild).irqen = s.irqen := rfl
@[simp] theorem State.unbuild_cmd (s : State) : (s.unbuild).cmd = s.cmd := rfl
@[simp] theorem State.unbuild_counters (s : State) : (s.unbuild).counters = s.counters := rfl
@[simp] theorem State.unbuild_pending (s : State) : (s.unbuild).pending = s.pending := rfl
@[simp] theorem State.unbuild_params (s : State) : (s.unbuild).params = s.params := rfl
@[simp] theorem State.unbuild_schedule (s : State) : (s.unbuild).schedule = s.schedule := rfl
@[simp] theorem State.unbuild_hostData (s : State) : (s.unbuild).hostData = s.hostData := rfl
@[simp] theorem State.unbuild_unwrittenRead (s : State) : (s.unbuild).unwrittenRead = s.unwrittenRead := rfl
@[simp] theorem State.unbuild_draws (s : State) : (s.unbuild).draws = s.draws := rfl
@[simp] theorem State.unbuild_resets (s : State) : (s.unbuild).resets = s.resets := rfl

/-! ### State.setConfig -/

@[simp] theorem State.setConfig_w (s : State) (v : Half) : (s.setConfig v).w = s.w := rfl
@[simp] theorem State.setConfig_status (s : State) (v : Half) : (s.setConfig v).status = s.status.setBuilt false := rfl
@[simp] theorem State.setConfig_config (s : State) (v : Half) : (s.setConfig v).config = ConfigReg.ofWord v := rfl
@[simp] theorem State.setConfig_n (s : State) (v : Half) : (s.setConfig v).n = s.n := rfl
@[simp] theorem State.setConfig_pt (s : State) (v : Half) : (s.setConfig v).pt = s.pt := rfl
@[simp] theorem State.setConfig_fb (s : State) (v : Half) : (s.setConfig v).fb = s.fb := rfl
@[simp] theorem State.setConfig_cursor (s : State) (v : Half) : (s.setConfig v).cursor = 0 := rfl
@[simp] theorem State.setConfig_ecause (s : State) (v : Half) : (s.setConfig v).ecause = s.ecause := rfl
@[simp] theorem State.setConfig_einfo (s : State) (v : Half) : (s.setConfig v).einfo = s.einfo := rfl
@[simp] theorem State.setConfig_irqen (s : State) (v : Half) : (s.setConfig v).irqen = s.irqen := rfl
@[simp] theorem State.setConfig_cmd (s : State) (v : Half) : (s.setConfig v).cmd = s.cmd := rfl
@[simp] theorem State.setConfig_counters (s : State) (v : Half) : (s.setConfig v).counters = s.counters := rfl
@[simp] theorem State.setConfig_pending (s : State) (v : Half) : (s.setConfig v).pending = s.pending := rfl
@[simp] theorem State.setConfig_params (s : State) (v : Half) : (s.setConfig v).params = s.params := rfl
@[simp] theorem State.setConfig_schedule (s : State) (v : Half) : (s.setConfig v).schedule = s.schedule := rfl
@[simp] theorem State.setConfig_hostData (s : State) (v : Half) : (s.setConfig v).hostData = s.hostData := rfl
@[simp] theorem State.setConfig_unwrittenRead (s : State) (v : Half) : (s.setConfig v).unwrittenRead = s.unwrittenRead := rfl
@[simp] theorem State.setConfig_draws (s : State) (v : Half) : (s.setConfig v).draws = s.draws := rfl
@[simp] theorem State.setConfig_resets (s : State) (v : Half) : (s.setConfig v).resets = s.resets := rfl

/-! ### State.setN -/

@[simp] theorem State.setN_w (s : State) (v : Half) : (s.setN v).w = s.w := rfl
@[simp] theorem State.setN_status (s : State) (v : Half) : (s.setN v).status = s.status.setBuilt false := rfl
@[simp] theorem State.setN_config (s : State) (v : Half) : (s.setN v).config = s.config := rfl
@[simp] theorem State.setN_n (s : State) (v : Half) : (s.setN v).n = v := rfl
@[simp] theorem State.setN_pt (s : State) (v : Half) : (s.setN v).pt = s.pt := rfl
@[simp] theorem State.setN_fb (s : State) (v : Half) : (s.setN v).fb = s.fb := rfl
@[simp] theorem State.setN_cursor (s : State) (v : Half) : (s.setN v).cursor = 0 := rfl
@[simp] theorem State.setN_ecause (s : State) (v : Half) : (s.setN v).ecause = s.ecause := rfl
@[simp] theorem State.setN_einfo (s : State) (v : Half) : (s.setN v).einfo = s.einfo := rfl
@[simp] theorem State.setN_irqen (s : State) (v : Half) : (s.setN v).irqen = s.irqen := rfl
@[simp] theorem State.setN_cmd (s : State) (v : Half) : (s.setN v).cmd = s.cmd := rfl
@[simp] theorem State.setN_counters (s : State) (v : Half) : (s.setN v).counters = s.counters := rfl
@[simp] theorem State.setN_pending (s : State) (v : Half) : (s.setN v).pending = s.pending := rfl
@[simp] theorem State.setN_params (s : State) (v : Half) : (s.setN v).params = s.params := rfl
@[simp] theorem State.setN_schedule (s : State) (v : Half) : (s.setN v).schedule = s.schedule := rfl
@[simp] theorem State.setN_hostData (s : State) (v : Half) : (s.setN v).hostData = s.hostData := rfl
@[simp] theorem State.setN_unwrittenRead (s : State) (v : Half) : (s.setN v).unwrittenRead = s.unwrittenRead := rfl
@[simp] theorem State.setN_draws (s : State) (v : Half) : (s.setN v).draws = s.draws := rfl
@[simp] theorem State.setN_resets (s : State) (v : Half) : (s.setN v).resets = s.resets := rfl

/-! ### State.setIrqen -/

@[simp] theorem State.setIrqen_w (s : State) (v : Half) : (s.setIrqen v).w = s.w := rfl
@[simp] theorem State.setIrqen_status (s : State) (v : Half) : (s.setIrqen v).status = s.status := rfl
@[simp] theorem State.setIrqen_config (s : State) (v : Half) : (s.setIrqen v).config = s.config := rfl
@[simp] theorem State.setIrqen_n (s : State) (v : Half) : (s.setIrqen v).n = s.n := rfl
@[simp] theorem State.setIrqen_pt (s : State) (v : Half) : (s.setIrqen v).pt = s.pt := rfl
@[simp] theorem State.setIrqen_fb (s : State) (v : Half) : (s.setIrqen v).fb = s.fb := rfl
@[simp] theorem State.setIrqen_cursor (s : State) (v : Half) : (s.setIrqen v).cursor = s.cursor := rfl
@[simp] theorem State.setIrqen_ecause (s : State) (v : Half) : (s.setIrqen v).ecause = s.ecause := rfl
@[simp] theorem State.setIrqen_einfo (s : State) (v : Half) : (s.setIrqen v).einfo = s.einfo := rfl
@[simp] theorem State.setIrqen_irqen (s : State) (v : Half) : (s.setIrqen v).irqen = IrqEnable.ofWord v := rfl
@[simp] theorem State.setIrqen_cmd (s : State) (v : Half) : (s.setIrqen v).cmd = s.cmd := rfl
@[simp] theorem State.setIrqen_counters (s : State) (v : Half) : (s.setIrqen v).counters = s.counters := rfl
@[simp] theorem State.setIrqen_pending (s : State) (v : Half) : (s.setIrqen v).pending = s.pending := rfl
@[simp] theorem State.setIrqen_params (s : State) (v : Half) : (s.setIrqen v).params = s.params := rfl
@[simp] theorem State.setIrqen_schedule (s : State) (v : Half) : (s.setIrqen v).schedule = s.schedule := rfl
@[simp] theorem State.setIrqen_hostData (s : State) (v : Half) : (s.setIrqen v).hostData = s.hostData := rfl
@[simp] theorem State.setIrqen_unwrittenRead (s : State) (v : Half) : (s.setIrqen v).unwrittenRead = s.unwrittenRead := rfl
@[simp] theorem State.setIrqen_draws (s : State) (v : Half) : (s.setIrqen v).draws = s.draws := rfl
@[simp] theorem State.setIrqen_resets (s : State) (v : Half) : (s.setIrqen v).resets = s.resets := rfl

/-! ### State.drop -/

@[simp] theorem State.drop_w (s : State) : (s.drop).w = s.w := rfl
@[simp] theorem State.drop_status (s : State) : (s.drop).status = s.status.setOvr := rfl
@[simp] theorem State.drop_config (s : State) : (s.drop).config = s.config := rfl
@[simp] theorem State.drop_n (s : State) : (s.drop).n = s.n := rfl
@[simp] theorem State.drop_pt (s : State) : (s.drop).pt = s.pt := rfl
@[simp] theorem State.drop_fb (s : State) : (s.drop).fb = s.fb := rfl
@[simp] theorem State.drop_cursor (s : State) : (s.drop).cursor = s.cursor := rfl
@[simp] theorem State.drop_ecause (s : State) : (s.drop).ecause = s.ecause := rfl
@[simp] theorem State.drop_einfo (s : State) : (s.drop).einfo = s.einfo := rfl
@[simp] theorem State.drop_irqen (s : State) : (s.drop).irqen = s.irqen := rfl
@[simp] theorem State.drop_cmd (s : State) : (s.drop).cmd = s.cmd := rfl
@[simp] theorem State.drop_counters (s : State) : (s.drop).counters = s.counters := rfl
@[simp] theorem State.drop_pending (s : State) : (s.drop).pending = s.pending := rfl
@[simp] theorem State.drop_params (s : State) : (s.drop).params = s.params := rfl
@[simp] theorem State.drop_schedule (s : State) : (s.drop).schedule = s.schedule := rfl
@[simp] theorem State.drop_hostData (s : State) : (s.drop).hostData = s.hostData := rfl
@[simp] theorem State.drop_unwrittenRead (s : State) : (s.drop).unwrittenRead = s.unwrittenRead := rfl
@[simp] theorem State.drop_draws (s : State) : (s.drop).draws = s.draws := rfl
@[simp] theorem State.drop_resets (s : State) : (s.drop).resets = s.resets := rfl

/-! ### State.deliver -/

@[simp] theorem State.deliver_w (s : State) (v : Half) : (s.deliver v).w = s.w := rfl
@[simp] theorem State.deliver_status (s : State) (v : Half) : (s.deliver v).status = s.status := rfl
@[simp] theorem State.deliver_config (s : State) (v : Half) : (s.deliver v).config = s.config := rfl
@[simp] theorem State.deliver_n (s : State) (v : Half) : (s.deliver v).n = s.n := rfl
@[simp] theorem State.deliver_pt (s : State) (v : Half) : (s.deliver v).pt = s.pt := rfl
@[simp] theorem State.deliver_fb (s : State) (v : Half) : (s.deliver v).fb = s.fb := rfl
@[simp] theorem State.deliver_cursor (s : State) (v : Half) : (s.deliver v).cursor = s.cursor := rfl
@[simp] theorem State.deliver_ecause (s : State) (v : Half) : (s.deliver v).ecause = s.ecause := rfl
@[simp] theorem State.deliver_einfo (s : State) (v : Half) : (s.deliver v).einfo = s.einfo := rfl
@[simp] theorem State.deliver_irqen (s : State) (v : Half) : (s.deliver v).irqen = s.irqen := rfl
@[simp] theorem State.deliver_cmd (s : State) (v : Half) : (s.deliver v).cmd = s.cmd := rfl
@[simp] theorem State.deliver_counters (s : State) (v : Half) : (s.deliver v).counters = s.counters := rfl
@[simp] theorem State.deliver_pending (s : State) (v : Half) : (s.deliver v).pending = s.pending := rfl
@[simp] theorem State.deliver_params (s : State) (v : Half) : (s.deliver v).params = s.params := rfl
@[simp] theorem State.deliver_schedule (s : State) (v : Half) : (s.deliver v).schedule = s.schedule := rfl
@[simp] theorem State.deliver_hostData (s : State) (v : Half) : (s.deliver v).hostData = some v := rfl
@[simp] theorem State.deliver_unwrittenRead (s : State) (v : Half) : (s.deliver v).unwrittenRead = s.unwrittenRead := rfl
@[simp] theorem State.deliver_draws (s : State) (v : Half) : (s.deliver v).draws = s.draws := rfl
@[simp] theorem State.deliver_resets (s : State) (v : Half) : (s.deliver v).resets = s.resets := rfl

/-! ### State.deliverAny -/

@[simp] theorem State.deliverAny_w (s : State) : (s.deliverAny).w = s.w := rfl
@[simp] theorem State.deliverAny_status (s : State) : (s.deliverAny).status = s.status := rfl
@[simp] theorem State.deliverAny_config (s : State) : (s.deliverAny).config = s.config := rfl
@[simp] theorem State.deliverAny_n (s : State) : (s.deliverAny).n = s.n := rfl
@[simp] theorem State.deliverAny_pt (s : State) : (s.deliverAny).pt = s.pt := rfl
@[simp] theorem State.deliverAny_fb (s : State) : (s.deliverAny).fb = s.fb := rfl
@[simp] theorem State.deliverAny_cursor (s : State) : (s.deliverAny).cursor = s.cursor := rfl
@[simp] theorem State.deliverAny_ecause (s : State) : (s.deliverAny).ecause = s.ecause := rfl
@[simp] theorem State.deliverAny_einfo (s : State) : (s.deliverAny).einfo = s.einfo := rfl
@[simp] theorem State.deliverAny_irqen (s : State) : (s.deliverAny).irqen = s.irqen := rfl
@[simp] theorem State.deliverAny_cmd (s : State) : (s.deliverAny).cmd = s.cmd := rfl
@[simp] theorem State.deliverAny_counters (s : State) : (s.deliverAny).counters = s.counters := rfl
@[simp] theorem State.deliverAny_pending (s : State) : (s.deliverAny).pending = s.pending := rfl
@[simp] theorem State.deliverAny_params (s : State) : (s.deliverAny).params = s.params := rfl
@[simp] theorem State.deliverAny_schedule (s : State) : (s.deliverAny).schedule = s.schedule := rfl
@[simp] theorem State.deliverAny_hostData (s : State) : (s.deliverAny).hostData = some (Config.busyRead s.draws) := rfl
@[simp] theorem State.deliverAny_unwrittenRead (s : State) : (s.deliverAny).unwrittenRead = s.unwrittenRead := rfl
@[simp] theorem State.deliverAny_draws (s : State) : (s.deliverAny).draws = s.draws + 1 := rfl
@[simp] theorem State.deliverAny_resets (s : State) : (s.deliverAny).resets = s.resets := rfl

/-! ### State.platformReset -/

@[simp] theorem State.platformReset_w (s : State) : (s.platformReset).w = State.reset.w := rfl
@[simp] theorem State.platformReset_status (s : State) : (s.platformReset).status = State.reset.status := rfl
@[simp] theorem State.platformReset_config (s : State) : (s.platformReset).config = State.reset.config := rfl
@[simp] theorem State.platformReset_n (s : State) : (s.platformReset).n = State.reset.n := rfl
@[simp] theorem State.platformReset_pt (s : State) : (s.platformReset).pt = State.reset.pt := rfl
@[simp] theorem State.platformReset_fb (s : State) : (s.platformReset).fb = State.reset.fb := rfl
@[simp] theorem State.platformReset_cursor (s : State) : (s.platformReset).cursor = State.reset.cursor := rfl
@[simp] theorem State.platformReset_ecause (s : State) : (s.platformReset).ecause = State.reset.ecause := rfl
@[simp] theorem State.platformReset_einfo (s : State) : (s.platformReset).einfo = State.reset.einfo := rfl
@[simp] theorem State.platformReset_irqen (s : State) : (s.platformReset).irqen = State.reset.irqen := rfl
@[simp] theorem State.platformReset_cmd (s : State) : (s.platformReset).cmd = State.reset.cmd := rfl
@[simp] theorem State.platformReset_counters (s : State) : (s.platformReset).counters = State.reset.counters := rfl
@[simp] theorem State.platformReset_pending (s : State) : (s.platformReset).pending = State.reset.pending := rfl
@[simp] theorem State.platformReset_params (s : State) : (s.platformReset).params = s.params := rfl
@[simp] theorem State.platformReset_schedule (s : State) : (s.platformReset).schedule = s.schedule := rfl
@[simp] theorem State.platformReset_hostData (s : State) : (s.platformReset).hostData = s.hostData := rfl
@[simp] theorem State.platformReset_unwrittenRead (s : State) : (s.platformReset).unwrittenRead = s.unwrittenRead := rfl
@[simp] theorem State.platformReset_draws (s : State) : (s.platformReset).draws = s.draws := rfl
@[simp] theorem State.platformReset_resets (s : State) : (s.platformReset).resets = s.resets + 1 := rfl

end Sys2Proof.Machine
end

