-- ==== Sys2Proof/Laws/Words.lean ====
section
/-! SUPPORT. Halves, sums, products and folds: what each operand form and each arithmetic operation computes, as exact
numbers, and the byte lanes. -/

namespace Sys2Proof.Machine

/-! ### Halves -/

@[simp] theorem lo_pair (h l : Half) : lo (pair h l) = l := by
  apply BitVec.eq_of_getLsbD_eq
  intro k hk
  simp only [lo, pair, BitVec.getLsbD_extractLsb', BitVec.getLsbD_append, hk, decide_true, Bool.true_and,
    Nat.zero_add, if_true]

@[simp] theorem hi_pair (h l : Half) : hi (pair h l) = h := by
  apply BitVec.eq_of_getLsbD_eq
  intro k hk
  have h64 : ¬ 64 + k < 64 := by omega
  simp only [hi, pair, BitVec.getLsbD_extractLsb', BitVec.getLsbD_append, hk, decide_true, Bool.true_and,
    h64, if_false, Nat.add_sub_cancel_left]

theorem lo_toNat (v : Wide) : (lo v).toNat = v.toNat % 2 ^ 64 := by
  simp [lo, BitVec.extractLsb'_toNat]

theorem hi_toNat (v : Wide) : (hi v).toNat = v.toNat / 2 ^ 64 := by
  have := v.isLt
  simp only [hi, BitVec.extractLsb'_toNat, Nat.shiftRight_eq_div_pow]
  omega

theorem pair_toNat (h l : Half) : (pair h l).toNat = h.toNat * 2 ^ 64 + l.toNat := by
  have := l.isLt
  simp only [pair, BitVec.toNat_append, Nat.shiftLeft_eq, Nat.mul_comm h.toNat]
  rw [Nat.two_pow_add_eq_or_of_lt this]

@[simp] theorem pair_hi_lo (v : Wide) : pair (hi v) (lo v) = v := by
  apply BitVec.eq_of_toNat_eq
  rw [pair_toNat, hi_toNat, lo_toNat]
  omega

theorem zext128_toNat {k : Nat} (v : BitVec k) (hk : k ≤ 128) : (zext128 v).toNat = v.toNat := by
  simpa [zext128] using Nat.mod_eq_of_lt (v.isLt.trans_le (Nat.pow_le_pow_right (by decide) hk))

theorem zext64_toNat {k : Nat} (v : BitVec k) (hk : k ≤ 64) : (zext64 v).toNat = v.toNat := by
  simpa [zext64] using Nat.mod_eq_of_lt (v.isLt.trans_le (Nat.pow_le_pow_right (by decide) hk))

/-- R101: the operand of a width-w command, as a number. -/
theorem opnd_toNat (width64 : Bool) (v : Wide) : (opnd width64 v).toNat = v.toNat % 2 ^ widthBits width64 := by
  cases width64
  · simpa [opnd, widthBits] using (Nat.mod_eq_of_lt v.isLt).symm
  · simp [opnd, widthBits, zext128_toNat, lo_toNat]

/-! ### The adder -/

theorem addLow_eq (a b : Wide) : addLow a b = a.toNat % 2 ^ 64 + b.toNat % 2 ^ 64 := by
  simp [addLow, lo_toNat]

/-- The halves of the adder put together give the exact sum (R105). -/
theorem addHigh_addLow (a b : Wide) : addHigh a b * 2 ^ 64 + addLow a b % 2 ^ 64 = a.toNat + b.toNat := by
  simp only [addHigh, addCarry64, addLow_eq, hi_toNat]
  split <;> omega

/-- R105: ADD's result is the exact sum of the width-w operands modulo 2^w. -/
theorem addSum_toNat (width64 : Bool) (a b : Wide) :
    (addSum width64 a b).toNat =
      ((opnd width64 a).toNat + (opnd width64 b).toNat) % 2 ^ widthBits width64 := by
  cases width64
  · have h := addHigh_addLow a b
    simp only [addSum, opnd, widthBits, Bool.false_eq_true, if_false, pair_toNat, BitVec.toNat_ofNat]
    rw [← h]
    generalize addHigh a b = high
    generalize addLow a b = low
    clear h
    omega
  · rw [addSum, if_pos rfl, zext128_toNat _ (by decide), BitVec.toNat_ofNat, opnd_toNat, opnd_toNat, addLow_eq]
    simp only [widthBits, if_true]

/-- R105: C says that the exact sum reaches 2^w. -/
theorem addCarry_iff (width64 : Bool) (a b : Wide) :
    addCarry width64 a b = true ↔
      2 ^ widthBits width64 ≤ (opnd width64 a).toNat + (opnd width64 b).toNat := by
  cases width64
  · have h := addHigh_addLow a b
    simp only [addCarry, opnd, widthBits, Bool.false_eq_true, if_false, decide_eq_true_eq]
    omega
  · rw [addCarry, if_pos rfl, decide_eq_true_eq, opnd_toNat, opnd_toNat, addLow_eq]
    simp only [widthBits, if_true]

/-! ### The multipliers -/

theorem lowProduct_lt (a b : Wide) : lowProduct a b < 2 ^ 128 := by
  have h : lowProduct a b ≤ (2 ^ 64 - 1) * (2 ^ 64 - 1) :=
    Nat.mul_le_mul (Nat.le_sub_one_of_lt (lo a).isLt) (Nat.le_sub_one_of_lt (lo b).isLt)
  omega

/-- R106: dropping high x high is reduction modulo 2^128. -/
theorem partialProducts_mod (a b : Wide) :
    (lowProduct a b + crossProducts a b % 2 ^ 64 * 2 ^ 64) % 2 ^ 128 = a.toNat * b.toNat % 2 ^ 128 := by
  have ha : a.toNat = (hi a).toNat * 2 ^ 64 + (lo a).toNat := by rw [hi_toNat, lo_toNat]; omega
  have hb : b.toNat = (hi b).toNat * 2 ^ 64 + (lo b).toNat := by rw [hi_toNat, lo_toNat]; omega
  have hx : a.toNat * b.toNat =
      lowProduct a b + crossProducts a b * 2 ^ 64 + (hi a).toNat * (hi b).toNat * 2 ^ 128 := by
    rw [ha, hb, lowProduct, crossProducts]; ring
  rw [hx, Nat.add_mul_mod_self_right]
  generalize lowProduct a b = p
  generalize crossProducts a b = q
  omega

/-- R106: MUL's result is the exact product of the width-w operands modulo 2^w. -/
theorem mulProduct_toNat (width64 : Bool) (a b : Wide) :
    (mulProduct width64 a b).toNat =
      (opnd width64 a).toNat * (opnd width64 b).toNat % 2 ^ widthBits width64 := by
  cases width64
  · simp only [mulProduct, opnd, widthBits, Bool.false_eq_true, if_false, BitVec.toNat_ofNat]
    exact partialProducts_mod a b
  · rw [mulProduct, if_pos rfl, zext128_toNat _ (by decide), BitVec.toNat_ofNat, opnd_toNat, opnd_toNat, lowProduct,
      lo_toNat, lo_toNat]
    simp only [widthBits, if_true]

/-- R106: V says that the exact product reaches 2^w. -/
theorem mulOverflow_iff (width64 : Bool) (a b : Wide) :
    mulOverflow width64 a b = true ↔
      2 ^ widthBits width64 ≤ (opnd width64 a).toNat * (opnd width64 b).toNat := by
  cases width64
  · simp only [mulOverflow, opnd, widthBits, Bool.false_eq_true, if_false, decide_eq_true_eq]
  · rw [mulOverflow, if_pos rfl, decide_eq_true_eq, opnd_toNat, opnd_toNat, lowProduct, lo_toNat, lo_toNat]
    simp only [widthBits, if_true]

/-- R107: MULLL's result is the exact product of the low halves. -/
theorem mulLow_toNat (a b : Wide) : (mulLow a b).toNat = (lo a).toNat * (lo b).toNat := by
  rw [mulLow, BitVec.toNat_ofNat, Nat.mod_eq_of_lt (lowProduct_lt a b), lowProduct]

/-- R101: a value below 2^w is its own operand. -/
theorem opnd_eq_self {width64 : Bool} {v : Wide} (h : v.toNat < 2 ^ widthBits width64) : opnd width64 v = v := by
  apply BitVec.eq_of_toNat_eq
  rw [opnd_toNat, Nat.mod_eq_of_lt h]

theorem opnd_lt (width64 : Bool) (v : Wide) : (opnd width64 v).toNat < 2 ^ widthBits width64 := by
  rw [opnd_toNat]
  exact Nat.mod_lt _ (by positivity)

theorem opnd_opnd (width64 : Bool) (v : Wide) : opnd width64 (opnd width64 v) = opnd width64 v :=
  opnd_eq_self (opnd_lt width64 v)

/-- R108: the chain multiplies by `x0` once a step, modulo 2^w. -/
theorem powerChain_toNat (width64 : Bool) (x0 : Wide) (hx : opnd width64 x0 = x0) (times : Nat) (r : Wide)
    (hr : opnd width64 r = r) :
    (powerChain width64 x0 times r).toNat = r.toNat * x0.toNat ^ times % 2 ^ widthBits width64 := by
  induction times generalizing r with
  | zero => simpa [powerChain, hr] using opnd_toNat width64 r
  | succ k ih =>
    have hp := mulProduct_toNat width64 r x0
    rw [hx, hr] at hp
    have hlt : (mulProduct width64 r x0).toNat < 2 ^ widthBits width64 := hp ▸ Nat.mod_lt _ (by positivity)
    rw [powerChain, ih _ (opnd_eq_self hlt), hp, Nat.mod_mul_mod, pow_succ']
    ring_nf

/-- R108: POW5's result is the fifth power of the width-w operand modulo 2^w. -/
theorem pow5_toNat (width64 : Bool) (v : Wide) :
    (pow5 width64 v).toNat = (opnd width64 v).toNat ^ 5 % 2 ^ widthBits width64 := by
  rw [pow5, powerChain_toNat _ _ (opnd_opnd _ _) _ _ (opnd_opnd _ _)]
  ring_nf

/-! ### The folds -/

theorem fold16_eq (v : Wide) : fold16 v =
    v.extractLsb' 0 16 ^^^ v.extractLsb' 16 16 ^^^ v.extractLsb' 32 16 ^^^ v.extractLsb' 48 16 ^^^
    v.extractLsb' 64 16 ^^^ v.extractLsb' 80 16 ^^^ v.extractLsb' 96 16 ^^^ v.extractLsb' 112 16 := by
  simp [fold16]

end Sys2Proof.Machine

namespace Sys2Proof

/-- R53, R55: a command word is read back from the byte lanes it is laid out on. -/
@[simp] theorem offeredOnLanes_eq (x : CommandWord) : offeredOnLanes x = x := by
  apply BitVec.eq_of_getLsbD_eq
  intro k hk
  simp only [offeredOnLanes, offeredWord, ofByteLanes, byteLane]
  interval_cases k <;> simp only [BitVec.getLsbD_append, BitVec.getLsbD_extractLsb', BitVec.getLsbD_setWidth] <;> simp

end Sys2Proof
end

