-- ==== Sys2Proof/Laws/Registers.lean ====
section
/-! SUPPORT. Reading a W register after each operation, and the STATUS fields after each write. -/

namespace Sys2Proof.Machine

/-! ### Reading -/

/-- What `x[r]` is depends only on the register file and on the number of resets. -/
theorem State.x_congr {s t : State} (hw : t.w = s.w) (hr : t.resets = s.resets) (r : Reg) : t.x r = s.x r := by
  simp [State.x, State.hiHalf, State.loHalf, hw, hr]

theorem State.written_congr {s t : State} (hw : t.w = s.w) (r : Reg) : t.written r = s.written r := by
  simp [State.written, hw]

/-- R22: a register whose halves are both written reads as the value it holds. -/
theorem State.x_of_written {s : State} {r : Reg} (h : s.written r = true) : s.x r = s.w[r.val].val := by
  simp only [State.written, Bool.and_eq_true] at h
  simp [State.x, State.hiHalf, State.loHalf, h.1, h.2]

@[simp] theorem State.x_setW_self (s : State) (r : Reg) (v : Wide) : (s.setW r v).x r = v := by
  simp [State.x, State.hiHalf, State.loHalf]

@[simp] theorem State.written_setW_self (s : State) (r : Reg) (v : Wide) : (s.setW r v).written r = true := by
  simp [State.written]

theorem State.w_setW_other (s : State) {r q : Reg} (h : q ≠ r) (v : Wide) : (s.setW r v).w[q.val] = s.w[q.val] := by
  have : r.val ≠ q.val := fun e => h (Fin.ext e.symm)
  simp [this]

/-! ### Writes of STATUS -/

@[simp] theorem Status.setC_eq (st : Status) (b : Bool) : st.setC b = { st with c := b } := rfl
@[simp] theorem Status.setV_eq (st : Status) (b : Bool) : st.setV b = { st with v := b } := rfl
@[simp] theorem Status.setCompare_eq (st : Status) (e l : Bool) : st.setCompare e l = { st with eq := e, lt := l } := rfl
@[simp] theorem Status.setFh_eq (st : Status) (b : Bool) : st.setFh b = { st with fh := b } := rfl
@[simp] theorem Status.setHit_eq (st : Status) (b : Bool) : st.setHit b = { st with hit := b } := rfl
@[simp] theorem Status.setOvr_eq (st : Status) : st.setOvr = { st with ovr := true } := rfl
@[simp] theorem Status.setBuilt_eq (st : Status) (b : Bool) : st.setBuilt b = { st with built := b } := rfl
@[simp] theorem Status.setDone_eq (st : Status) : st.setDone = { st with done := true } := rfl
@[simp] theorem Status.setError_eq (st : Status) : st.setError = { st with err := true, done := true } := rfl

/-! ### Writes of counters -/

@[simp] theorem Counters.countCommand_eq (k : Counters) : k.countCommand = { k with cmdcnt := k.cmdcnt + 1 } := rfl
@[simp] theorem Counters.countLookup_eq (k : Counters) : k.countLookup = { k with lkcnt := k.lkcnt + 1 } := rfl
@[simp] theorem Counters.countFilterHit_eq (k : Counters) : k.countFilterHit = { k with fhcnt := k.fhcnt + 1 } := rfl
@[simp] theorem Counters.countHit_eq (k : Counters) : k.countHit = { k with hitcnt := k.hitcnt + 1 } := rfl

/-! ### The word being completed -/

/-- R65: with a command pending, the word being completed is that command's. -/
theorem State.word_of_pending {s : State} {word : CommandWord} (h : s.pending = some word) : s.word = word := by
  simp [State.word, h]

end Sys2Proof.Machine
end

