-- ==== Sys2Proof/Laws/Tables.lean ====
section
/-! SUPPORT. The power table, the filter, and the two confirmation searches: what each can answer. -/

namespace Sys2Proof.Machine

/-! ### The window PT[0] to PT[N-1] -/

theorem tableFrom_length (l : List Wide) (i count : Nat) : (tableFrom l i count).length = count := by
  induction count generalizing l i with
  | zero => cases l <;> rfl
  | succ k ih => cases l <;> simp [tableFrom, ih]

theorem tableFrom_getElem? (l : List Wide) (i count k : Nat) (h : k < count) :
    (tableFrom l i count)[k]? = some (l.getD k (Config.unbuiltEntry (i + k))) := by
  induction count generalizing l i k with
  | zero => omega
  | succ n ih =>
    cases l with
    | nil =>
      cases k with
      | zero => simp [tableFrom]
      | succ j => simpa [tableFrom, Nat.add_comm, Nat.add_left_comm, Nat.add_assoc] using ih [] (i + 1) j (by omega)
    | cons e rest =>
      cases k with
      | zero => simp [tableFrom]
      | succ j =>
        simpa [tableFrom, Nat.add_comm, Nat.add_left_comm, Nat.add_assoc] using ih rest (i + 1) j (by omega)

/-- The examined entries are N in number (R31). -/
@[simp] theorem State.entries_length (s : State) : s.entries.length = s.n.toNat := tableFrom_length _ _ _

/-- An examined entry is what the array holds at its index (R31). -/
theorem State.entries_getElem? (s : State) {k : Nat} (h : k < s.n.toNat) : s.entries[k]? = some (s.ptRead k) := by
  simpa [State.entries, State.ptRead] using tableFrom_getElem? s.pt 0 s.n.toNat k h

/-- An index whose examined entry is `v` is an index below N that holds `v`. -/
theorem State.entries_getElem?_eq_some (s : State) (k : Nat) (v : Wide) :
    s.entries[k]? = some v ↔ k < s.n.toNat ∧ s.ptRead k = v := by
  by_cases h : k < s.n.toNat
  · rw [s.entries_getElem? h, Option.some.injEq]
    exact ⟨fun e => ⟨h, e⟩, And.right⟩
  · have hn : s.entries[k]? = none := by simpa using Nat.le_of_not_lt h
    rw [hn]
    exact ⟨fun e => by simp at e, fun e => absurd e.1 h⟩

/-! ### The searches -/

/-- IDX (R33) answers the smallest index of an entry equal to `v`, counted from where the search starts. -/
theorem findBase_eq_some (l : List Wide) (v : Wide) (i j : Nat) :
    findBase l v i = some j ↔ i ≤ j ∧ l[j - i]? = some v ∧ ∀ k, i ≤ k → k < j → l[k - i]? ≠ some v := by
  induction l generalizing i with
  | nil => simp [findBase]
  | cons e rest ih =>
    by_cases he : e = v
    · subst he
      simp only [findBase, if_true, Option.some.injEq]
      constructor
      · rintro rfl
        exact ⟨le_refl _, by simp, fun k h1 h2 => absurd h2 (by omega)⟩
      · rintro ⟨h1, _, h3⟩
        by_contra hne
        exact h3 i le_rfl (by omega) (by simp)
    · simp only [findBase, if_neg he, ih (i + 1)]
      constructor
      · rintro ⟨h1, h2, h3⟩
        refine ⟨by omega, ?_, fun k hk1 hk2 => ?_⟩
        · rw [show j - i = (j - (i + 1)) + 1 by omega]; simpa using h2
        · by_cases hk : k = i
          · subst hk; simpa using he
          · rw [show k - i = (k - (i + 1)) + 1 by omega]
            simpa using h3 k (by omega) hk2
      · rintro ⟨h1, h2, h3⟩
        have hj : j ≠ i := by rintro rfl; exact he (by simpa using h2)
        refine ⟨by omega, ?_, fun k hk1 hk2 => ?_⟩
        · rw [show j - i = (j - (i + 1)) + 1 by omega] at h2; simpa using h2
        · have := h3 k (by omega) hk2
          rw [show k - i = (k - (i + 1)) + 1 by omega] at this; simpa using this

/-- IDX (R33) answers NONE exactly when no entry equals `v`. -/
theorem findBase_eq_none (l : List Wide) (v : Wide) (i : Nat) : findBase l v i = none ↔ v ∉ l := by
  induction l generalizing i with
  | nil => simp [findBase]
  | cons e rest ih =>
    by_cases he : e = v
    · simp [findBase, he]
    · simp [findBase, he, ih, Ne.symm he]

/-- R161: where the range scan stops, counted from the cursor `c`: every entry before it is below `v`, and the entry
there, if there is one, is not. -/
theorem scanStop_spec (l : List Wide) (v : Wide) (c : Nat) :
    c ≤ scanStop l v c ∧ scanStop l v c ≤ c + l.length ∧
    (∀ k e, c ≤ k → k < scanStop l v c → l[k - c]? = some e → e.toNat < v.toNat) ∧
    (∀ e, l[scanStop l v c - c]? = some e → v.toNat ≤ e.toNat) := by
  induction l generalizing c with
  | nil => simp [scanStop]
  | cons a rest ih =>
    by_cases ha : a.toNat < v.toNat
    · obtain ⟨h1, h2, h3, h4⟩ := ih (c + 1)
      simp only [scanStop, if_pos ha, List.length_cons]
      refine ⟨by omega, by omega, fun k e hk1 hk2 hk3 => ?_, fun e he => ?_⟩
      · by_cases hk : k = c
        · subst hk
          have : a = e := by simpa using hk3
          exact this ▸ ha
        · rw [show k - c = (k - (c + 1)) + 1 by omega] at hk3
          exact h3 k e (by omega) hk2 (by simpa using hk3)
      · rw [show scanStop rest v (c + 1) - c = (scanStop rest v (c + 1) - (c + 1)) + 1 by omega] at he
        exact h4 e (by simpa using he)
    · simp only [scanStop, if_neg ha, List.length_cons]
      refine ⟨le_rfl, by omega, fun k e hk1 hk2 => absurd hk2 (by omega), fun e he => ?_⟩
      have : a = e := by simpa using he
      subst this
      omega

/-! ### The filter -/

/-- Setting the bit of one key (R32). -/
@[simp] theorem filterBit_filterInsert (fb : Filter) (key k : BitVec 16) :
    filterBit (filterInsert fb key) k = (filterBit fb k || decide (k = key)) := by
  have hk : key.toNat < 65536 := key.isLt
  have he : (key.toNat = k.toNat) ↔ (k = key) := by
    rw [← BitVec.toNat_inj]; exact eq_comm
  simp only [filterBit, filterInsert, BitVec.getLsbD_or, BitVec.getLsbD_twoPow, hk, decide_true, Bool.true_and, he]

@[simp] theorem filterBit_zero (k : BitVec 16) : filterBit 0#65536 k = false := BitVec.getLsbD_zero

/-- R140: the bits BUILD sets in FB are the keys of the entries it writes. -/
theorem filterBit_builtFilter (width64 : Bool) (n : Nat) (k : BitVec 16) :
    filterBit (builtFilter width64 n) k = true ↔ ∃ i, i < n ∧ fold16 (tableEntry width64 i) = k := by
  induction n with
  | zero => simp [builtFilter]
  | succ m ih =>
    have : builtFilter width64 (m + 1) =
        filterInsert (builtFilter width64 m) (fold16 (tableEntry width64 m)) := by
      simp [builtFilter, List.range_succ]
    rw [this, filterBit_filterInsert, Bool.or_eq_true, ih, decide_eq_true_eq]
    constructor
    · rintro (⟨i, hi, he⟩ | he)
      · exact ⟨i, by omega, he⟩
      · exact ⟨m, by omega, he.symm⟩
    · rintro ⟨i, hi, he⟩
      rcases Nat.lt_succ_iff_lt_or_eq.mp hi with h | rfl
      · exact .inl ⟨i, h, he⟩
      · exact .inr he.symm

/-! ### What BUILD writes -/

theorem builtTable_length (width64 : Bool) (n : Nat) (old : List Wide) :
    (builtTable width64 n old).length = max n old.length := by
  simp [builtTable]; omega

/-- R140: an entry below N after BUILD. -/
theorem builtTable_getD_lt (width64 : Bool) {n i : Nat} (old : List Wide) (h : i < n) (d : Wide) :
    (builtTable width64 n old).getD i d = tableEntry width64 i := by
  simp [builtTable, List.getElem?_append, h]

/-- 93 I5: an entry from N on keeps what it held. -/
theorem builtTable_getD_ge (width64 : Bool) {n i : Nat} (old : List Wide) (h : n ≤ i) (d : Wide) :
    (builtTable width64 n old).getD i d = old.getD i d := by
  have : ¬ i < n := by omega
  simp only [builtTable, List.getD_eq_getElem?_getD, List.getElem?_append, List.length_map, List.length_range, this,
    if_false, List.getElem?_drop]
  rw [show n + (i - n) = i by omega]

/-- R140, R143: what BUILD writes is the fifth power, where that fits in w bits. -/
theorem tableEntry_toNat (width64 : Bool) {i : Nat} (h : i ^ 5 < 2 ^ widthBits width64) :
    (tableEntry width64 i).toNat = i ^ 5 := by
  have hi : i < 2 ^ widthBits width64 := lt_of_le_of_lt (Nat.le_self_pow (by decide) i) h
  have hw : (2 : Nat) ^ widthBits width64 ≤ 2 ^ 128 := by cases width64 <;> decide
  rw [tableEntry, pow5_toNat, opnd_toNat, BitVec.toNat_ofNat, Nat.mod_eq_of_lt (lt_of_lt_of_le hi hw),
    Nat.mod_eq_of_lt hi, Nat.mod_eq_of_lt h]

/-- R141: BUILD's checks, one by one. -/
theorem buildCheck_eq_none (nmax n : Nat) (width64 : Bool) :
    buildCheck nmax n width64 = none ↔
      2 ≤ n ∧ n ≤ nmax ∧ (width64 = true → (n - 1) ^ 5 ≤ 2 ^ 64 - 1) := by
  unfold buildCheck
  split
  · simp; omega
  · split
    · simp; omega
    · split
      · next h1 h2 h3 => simp only [reduceCtorEq, false_iff, not_and]; intro _ _ h; have := h h3.1; omega
      · next h1 h2 h3 =>
        simp only [true_iff]
        refine ⟨by omega, by omega, fun hw => ?_⟩
        by_contra hc
        exact h3 ⟨hw, by omega⟩

end Sys2Proof.Machine
end

