-- ==== Sys2Proof/Laws/Step.lean ====
section
/-! SUPPORT. What a step can do: one case for each agent (00_scope.md R5), what an error and a register write leave (R203,
R65), and where the registers of the window lie (20_memory.md R54). -/

namespace Sys2Proof.Machine

/-! ### The fields of State around a turn -/

@[simp] theorem State.afterTurn_w (s : State) : (s.afterTurn).w = s.w := rfl
@[simp] theorem State.afterTurn_status (s : State) : (s.afterTurn).status = s.status := rfl
@[simp] theorem State.afterTurn_config (s : State) : (s.afterTurn).config = s.config := rfl
@[simp] theorem State.afterTurn_n (s : State) : (s.afterTurn).n = s.n := rfl
@[simp] theorem State.afterTurn_pt (s : State) : (s.afterTurn).pt = s.pt := rfl
@[simp] theorem State.afterTurn_fb (s : State) : (s.afterTurn).fb = s.fb := rfl
@[simp] theorem State.afterTurn_cursor (s : State) : (s.afterTurn).cursor = s.cursor := rfl
@[simp] theorem State.afterTurn_ecause (s : State) : (s.afterTurn).ecause = s.ecause := rfl
@[simp] theorem State.afterTurn_einfo (s : State) : (s.afterTurn).einfo = s.einfo := rfl
@[simp] theorem State.afterTurn_irqen (s : State) : (s.afterTurn).irqen = s.irqen := rfl
@[simp] theorem State.afterTurn_cmd (s : State) : (s.afterTurn).cmd = s.cmd := rfl
@[simp] theorem State.afterTurn_counters (s : State) : (s.afterTurn).counters = s.counters := rfl
@[simp] theorem State.afterTurn_pending (s : State) : (s.afterTurn).pending = s.pending := rfl
@[simp] theorem State.afterTurn_params (s : State) : (s.afterTurn).params = s.params := rfl
@[simp] theorem State.afterTurn_schedule (s : State) : (s.afterTurn).schedule = s.schedule.tail := rfl
@[simp] theorem State.afterTurn_hostData (s : State) : (s.afterTurn).hostData = s.hostData := rfl
@[simp] theorem State.afterTurn_unwrittenRead (s : State) : (s.afterTurn).unwrittenRead = s.unwrittenRead := rfl
@[simp] theorem State.afterTurn_draws (s : State) : (s.afterTurn).draws = s.draws := rfl
@[simp] theorem State.afterTurn_resets (s : State) : (s.afterTurn).resets = s.resets := rfl

@[simp] theorem State.placeWord_w (s : State) (x : CommandWord) : (s.placeWord x).w = s.w := rfl
@[simp] theorem State.placeWord_status (s : State) (x : CommandWord) : (s.placeWord x).status = s.status := rfl
@[simp] theorem State.placeWord_config (s : State) (x : CommandWord) : (s.placeWord x).config = s.config := rfl
@[simp] theorem State.placeWord_n (s : State) (x : CommandWord) : (s.placeWord x).n = s.n := rfl
@[simp] theorem State.placeWord_pt (s : State) (x : CommandWord) : (s.placeWord x).pt = s.pt := rfl
@[simp] theorem State.placeWord_fb (s : State) (x : CommandWord) : (s.placeWord x).fb = s.fb := rfl
@[simp] theorem State.placeWord_cursor (s : State) (x : CommandWord) : (s.placeWord x).cursor = s.cursor := rfl
@[simp] theorem State.placeWord_ecause (s : State) (x : CommandWord) : (s.placeWord x).ecause = s.ecause := rfl
@[simp] theorem State.placeWord_einfo (s : State) (x : CommandWord) : (s.placeWord x).einfo = s.einfo := rfl
@[simp] theorem State.placeWord_irqen (s : State) (x : CommandWord) : (s.placeWord x).irqen = s.irqen := rfl
@[simp] theorem State.placeWord_cmd (s : State) (x : CommandWord) : (s.placeWord x).cmd = zext64 x := rfl
@[simp] theorem State.placeWord_counters (s : State) (x : CommandWord) : (s.placeWord x).counters = s.counters := rfl
@[simp] theorem State.placeWord_pending (s : State) (x : CommandWord) : (s.placeWord x).pending = some x := rfl
@[simp] theorem State.placeWord_params (s : State) (x : CommandWord) : (s.placeWord x).params = s.params := rfl
@[simp] theorem State.placeWord_schedule (s : State) (x : CommandWord) : (s.placeWord x).schedule = .block :: s.schedule := rfl
@[simp] theorem State.placeWord_hostData (s : State) (x : CommandWord) : (s.placeWord x).hostData = s.hostData := rfl
@[simp] theorem State.placeWord_unwrittenRead (s : State) (x : CommandWord) : (s.placeWord x).unwrittenRead = s.unwrittenRead := rfl
@[simp] theorem State.placeWord_draws (s : State) (x : CommandWord) : (s.placeWord x).draws = s.draws := rfl
@[simp] theorem State.placeWord_resets (s : State) (x : CommandWord) : (s.placeWord x).resets = s.resets := rfl

@[simp] theorem State.hostWrites_w (s : State) (off : Nat) (v : Half) : (s.hostWrites off v).w = s.w := rfl
@[simp] theorem State.hostWrites_status (s : State) (off : Nat) (v : Half) : (s.hostWrites off v).status = s.status := rfl
@[simp] theorem State.hostWrites_config (s : State) (off : Nat) (v : Half) : (s.hostWrites off v).config = s.config := rfl
@[simp] theorem State.hostWrites_n (s : State) (off : Nat) (v : Half) : (s.hostWrites off v).n = s.n := rfl
@[simp] theorem State.hostWrites_pt (s : State) (off : Nat) (v : Half) : (s.hostWrites off v).pt = s.pt := rfl
@[simp] theorem State.hostWrites_fb (s : State) (off : Nat) (v : Half) : (s.hostWrites off v).fb = s.fb := rfl
@[simp] theorem State.hostWrites_cursor (s : State) (off : Nat) (v : Half) : (s.hostWrites off v).cursor = s.cursor := rfl
@[simp] theorem State.hostWrites_ecause (s : State) (off : Nat) (v : Half) : (s.hostWrites off v).ecause = s.ecause := rfl
@[simp] theorem State.hostWrites_einfo (s : State) (off : Nat) (v : Half) : (s.hostWrites off v).einfo = s.einfo := rfl
@[simp] theorem State.hostWrites_irqen (s : State) (off : Nat) (v : Half) : (s.hostWrites off v).irqen = s.irqen := rfl
@[simp] theorem State.hostWrites_cmd (s : State) (off : Nat) (v : Half) : (s.hostWrites off v).cmd = s.cmd := rfl
@[simp] theorem State.hostWrites_counters (s : State) (off : Nat) (v : Half) : (s.hostWrites off v).counters = s.counters := rfl
@[simp] theorem State.hostWrites_pending (s : State) (off : Nat) (v : Half) : (s.hostWrites off v).pending = s.pending := rfl
@[simp] theorem State.hostWrites_params (s : State) (off : Nat) (v : Half) : (s.hostWrites off v).params = s.params := rfl
@[simp] theorem State.hostWrites_schedule (s : State) (off : Nat) (v : Half) : (s.hostWrites off v).schedule = .host (.write (s.params.epxBase + off) 8 v) :: s.schedule := rfl
@[simp] theorem State.hostWrites_hostData (s : State) (off : Nat) (v : Half) : (s.hostWrites off v).hostData = s.hostData := rfl
@[simp] theorem State.hostWrites_unwrittenRead (s : State) (off : Nat) (v : Half) : (s.hostWrites off v).unwrittenRead = s.unwrittenRead := rfl
@[simp] theorem State.hostWrites_draws (s : State) (off : Nat) (v : Half) : (s.hostWrites off v).draws = s.draws := rfl
@[simp] theorem State.hostWrites_resets (s : State) (off : Nat) (v : Half) : (s.hostWrites off v).resets = s.resets := rfl

@[simp] theorem State.hostReads_w (s : State) (off : Nat) : (s.hostReads off).w = s.w := rfl
@[simp] theorem State.hostReads_status (s : State) (off : Nat) : (s.hostReads off).status = s.status := rfl
@[simp] theorem State.hostReads_config (s : State) (off : Nat) : (s.hostReads off).config = s.config := rfl
@[simp] theorem State.hostReads_n (s : State) (off : Nat) : (s.hostReads off).n = s.n := rfl
@[simp] theorem State.hostReads_pt (s : State) (off : Nat) : (s.hostReads off).pt = s.pt := rfl
@[simp] theorem State.hostReads_fb (s : State) (off : Nat) : (s.hostReads off).fb = s.fb := rfl
@[simp] theorem State.hostReads_cursor (s : State) (off : Nat) : (s.hostReads off).cursor = s.cursor := rfl
@[simp] theorem State.hostReads_ecause (s : State) (off : Nat) : (s.hostReads off).ecause = s.ecause := rfl
@[simp] theorem State.hostReads_einfo (s : State) (off : Nat) : (s.hostReads off).einfo = s.einfo := rfl
@[simp] theorem State.hostReads_irqen (s : State) (off : Nat) : (s.hostReads off).irqen = s.irqen := rfl
@[simp] theorem State.hostReads_cmd (s : State) (off : Nat) : (s.hostReads off).cmd = s.cmd := rfl
@[simp] theorem State.hostReads_counters (s : State) (off : Nat) : (s.hostReads off).counters = s.counters := rfl
@[simp] theorem State.hostReads_pending (s : State) (off : Nat) : (s.hostReads off).pending = s.pending := rfl
@[simp] theorem State.hostReads_params (s : State) (off : Nat) : (s.hostReads off).params = s.params := rfl
@[simp] theorem State.hostReads_schedule (s : State) (off : Nat) : (s.hostReads off).schedule = .host (.read (s.params.epxBase + off) 8) :: s.schedule := rfl
@[simp] theorem State.hostReads_hostData (s : State) (off : Nat) : (s.hostReads off).hostData = s.hostData := rfl
@[simp] theorem State.hostReads_unwrittenRead (s : State) (off : Nat) : (s.hostReads off).unwrittenRead = s.unwrittenRead := rfl
@[simp] theorem State.hostReads_draws (s : State) (off : Nat) : (s.hostReads off).draws = s.draws := rfl
@[simp] theorem State.hostReads_resets (s : State) (off : Nat) : (s.hostReads off).resets = s.resets := rfl

/-! ### Whose turn it is -/

@[simp] theorem State.turn_hostWrites (s : State) (off : Nat) (v : Half) :
    (s.hostWrites off v).turn = .host (.write (s.params.epxBase + off) 8 v) := rfl

@[simp] theorem State.turn_hostReads (s : State) (off : Nat) :
    (s.hostReads off).turn = .host (.read (s.params.epxBase + off) 8) := rfl

@[simp] theorem State.turn_placeWord (s : State) (x : CommandWord) : (s.placeWord x).turn = .block := rfl

@[simp] theorem State.afterTurn_hostWrites (s : State) (off : Nat) (v : Half) : (s.hostWrites off v).afterTurn = s := rfl

@[simp] theorem State.afterTurn_hostReads (s : State) (off : Nat) : (s.hostReads off).afterTurn = s := rfl

@[simp] theorem State.afterTurn_placeWord (s : State) (x : CommandWord) :
    (s.placeWord x).afterTurn = s.accept x := rfl

/-- R5: what a step that answers a next state did, by whose turn it was. -/
theorem step_cases {s t : State} (h : step s = .next t) :
    (∃ a, s.turn = .host a ∧ a.wellFormed s.params.epxBase = true ∧ t = hostAccess a s.afterTurn) ∨
    (s.turn = .block ∧ s.pending = none ∧ t = s.afterTurn) ∨
    (∃ word, s.turn = .block ∧ s.pending = some word ∧ complete word s.afterTurn = .next t) ∨
    (s.turn = .reset ∧ t = s.afterTurn.platformReset) := by
  cases ht : s.turn with
  | host a =>
    simp only [step, ht, turnStep, hostStep, State.afterTurn_params] at h
    cases hw : HostAccess.inWindow s.params.epxBase a.addr
    · simp [hw] at h
    · cases ha : a.aligned s.params.epxBase
      · simp [hw, ha] at h
      · refine .inl ⟨a, rfl, by simp [HostAccess.wellFormed, hw, ha], ?_⟩
        simpa [hw, ha] using h.symm
  | block =>
    cases hp : s.pending with
    | none =>
      have : t = s.afterTurn := by simpa [step, ht, turnStep, blockStep, State.fetch, hp] using h.symm
      exact .inr (.inl ⟨rfl, rfl, this⟩)
    | some word =>
      exact .inr (.inr (.inl ⟨word, rfl, rfl, by simpa [step, ht, turnStep, blockStep, State.fetch, hp] using h⟩))
  | reset =>
    have : t = s.afterTurn.platformReset := by simpa [step, ht, turnStep] using h.symm
    exact .inr (.inr (.inr ⟨rfl, this⟩))

/-- An access that is part of the interface has its step (R51). -/
theorem step_host {s : State} {a : HostAccess} (ht : s.turn = .host a)
    (ha : a.wellFormed s.params.epxBase = true) : step s = .next (hostAccess a s.afterTurn) := by
  simp only [HostAccess.wellFormed, Bool.and_eq_true] at ha
  simp [step, ht, turnStep, hostStep, ha.1, ha.2]

/-- An aligned offset of the window names a register (R51). -/
theorem wellFormed_write {base off : Nat} (h1 : off < 4096) (h2 : off % 8 = 0) (v : Half) :
    (HostAccess.write (base + off) 8 v).wellFormed base = true := by
  simp [HostAccess.wellFormed, HostAccess.inWindow, HostAccess.aligned, HostAccess.addr, HostAccess.size, windowBytes,
    h1, h2]

theorem wellFormed_read {base off : Nat} (h1 : off < 4096) (h2 : off % 8 = 0) :
    (HostAccess.read (base + off) 8).wellFormed base = true := by
  simp [HostAccess.wellFormed, HostAccess.inWindow, HostAccess.aligned, HostAccess.addr, HostAccess.size, windowBytes,
    h1, h2]

/-- R51: the host's write at an offset of the window. -/
theorem step_hostWrites {s : State} {off : Nat} (h1 : off < 4096) (h2 : off % 8 = 0) (v : Half) :
    step (s.hostWrites off v) = .next (hostWrite (hostRegAt off) v s) := by
  rw [step_host (s.turn_hostWrites off v) (wellFormed_write h1 h2 v)]
  simp [hostAccess]

/-- R51: the host's read at an offset of the window. -/
theorem step_hostReads {s : State} {off : Nat} (h1 : off < 4096) (h2 : off % 8 = 0) :
    step (s.hostReads off) = .next (hostRead (hostRegAt off) s) := by
  rw [step_host (s.turn_hostReads off) (wellFormed_read h1 h2)]
  simp [hostAccess]

/-! ### The register map (R54) -/

theorem hostRegAt_wLo (r : Reg) : hostRegAt (0x080 + 16 * r.val) = .wLo r := by revert r; decide

theorem hostRegAt_wHi (r : Reg) : hostRegAt (0x088 + 16 * r.val) = .wHi r := by revert r; decide

theorem hostRegAt_reserved {off : Nat} (h : 0x060 ≤ off ∧ off < 0x080 ∨ 0x100 ≤ off) : hostRegAt off = .reserved := by
  have hw : ¬ (0x080 ≤ off ∧ off < 0x100) := by omega
  have hn : ∀ k, k < 0x060 → off ≠ k := fun k hk he => by omega
  simp [hostRegAt, if_neg hw, hn]

/-! ### What an error and a register write leave -/

/-- R203: raising an error. -/
theorem raiseError_endedInError (s : State) (c : Cause) : EndedInError c s.word s (s.raiseError c) where
  idle := rfl
  status := rfl
  ecause := rfl
  einfo := rfl
  w := rfl
  cursor := rfl
  tables := ⟨fun _ => rfl, fun _ => rfl⟩
  counters := rfl
  port := ⟨rfl, rfl, rfl, rfl, rfl, rfl, rfl, rfl, rfl⟩

/-- R65: a command that notes its reads, writes rd and STATUS, and completes. -/
theorem wroteRegister_succeed (s : State) (record : Bool) (rd : Reg) (v : Wide) (f : Status → Status) :
    WroteRegister rd v (f s.status) s
      ((({ s with unwrittenRead := record } : State).setW rd v).updStatus f).succeed where
  value := (State.x_congr rfl rfl rd).trans (State.x_setW_self ({ s with unwrittenRead := record } : State) rd v)
  marked := (State.written_congr rfl rd).trans (State.written_setW_self ({ s with unwrittenRead := record } : State) rd v)
  others := fun _ hr => State.w_setW_other ({ s with unwrittenRead := record } : State) hr v
  cursor := rfl
  tables := ⟨fun _ => rfl, fun _ => rfl⟩
  completed := ⟨rfl, rfl, rfl, ⟨rfl, rfl⟩, ⟨rfl, rfl, rfl, rfl, rfl, rfl, rfl, rfl, rfl⟩⟩

/-- R65: the same for a command that also leaves CURSOR as `c` and counts as `k` (CMDCNT aside). -/
theorem wrote_succeed (s : State) (record : Bool) (rd : Reg) (v : Wide) (c : Half) (k : Counters) (st : Status)
    (hk : k.cmdcnt = s.counters.cmdcnt) :
    Wrote rd v c k st s
      (({ s with unwrittenRead := record, cursor := c, counters := k, status := st } : State).setW rd v).succeed := by
  have hu : State.resets { s with unwrittenRead := record, cursor := c, counters := k, status := st } = s.resets := rfl
  generalize hs : ({ s with unwrittenRead := record, cursor := c, counters := k, status := st } : State) = u at hu ⊢
  have hx : (u.setW rd v).succeed.x rd = v := (State.x_congr rfl rfl rd).trans (State.x_setW_self u rd v)
  have hm : (u.setW rd v).succeed.written rd = true :=
    (State.written_congr rfl rd).trans (State.written_setW_self u rd v)
  have ho : ∀ r : Reg, r ≠ rd → (u.setW rd v).succeed.w[r.val] = u.w[r.val] := fun _ hr => State.w_setW_other u hr v
  subst hs
  exact
    { value := hx
      marked := hm
      others := ho
      cursor := rfl
      tables := ⟨fun _ => rfl, fun _ => rfl⟩
      completed := ⟨rfl, by simp [hk], rfl, ⟨rfl, rfl⟩, ⟨rfl, rfl, rfl, rfl, rfl, rfl, rfl, rfl, rfl⟩⟩ }

/-! ### LOOKUP, path by path (42_membership.md R161) -/

theorem execLookup_rejected (rd rs1 : Reg) (s : State) (hb : s.status.built = true)
    (hf : filterBit s.fb (fold16 (s.x rs1)) = false) :
    execLookup rd rs1 s = .next (lookupRejected rd ((s.noteRead rs1).updCounters Counters.countLookup)).succeed := by
  simp only [execLookup, hb, Bool.true_eq_false, if_false, State.probe, hf, if_true]

theorem execLookup_confirmed (rd rs1 : Reg) (s : State) (hb : s.status.built = true)
    (hf : filterBit s.fb (fold16 (s.x rs1)) = true) :
    execLookup rd rs1 s =
      .next (lookupConfirmed rd ((s.noteRead rs1).updCounters Counters.countLookup) (confirm s (s.x rs1))).succeed := by
  simp only [execLookup, hb, Bool.true_eq_false, if_false, State.probe, hf]

/-- The confirmation found a base. -/
theorem lookupConfirmed_some (rd : Reg) (t : State) (j : Nat) (c : Half) :
    lookupConfirmed rd t { base := some j, cursor := c } =
      ({ t with
          cursor := c
          counters := { t.counters with fhcnt := t.counters.fhcnt + 1, hitcnt := t.counters.hitcnt + 1 }
          status := { t.status with fh := true, hit := true } } : State).setW rd (BitVec.ofNat 128 j) := rfl

/-- The confirmation found none. -/
theorem lookupConfirmed_none (rd : Reg) (t : State) (c : Half) :
    lookupConfirmed rd t { base := none, cursor := c } =
      ({ t with
          cursor := c
          counters := { t.counters with fhcnt := t.counters.fhcnt + 1 }
          status := { t.status with fh := true, hit := false } } : State).setW rd ones128 := rfl

/-- The SCAN loop stops where R161 says. -/
theorem scanStopsAt_scanStop (s : State) (v : Wide) :
    s.ScanStopsAt v (scanStop (s.entries.drop s.cursor.toNat) v s.cursor.toNat) := by
  obtain ⟨h1, h2, h3, h4⟩ := scanStop_spec (s.entries.drop s.cursor.toNat) v s.cursor.toNat
  generalize scanStop (s.entries.drop s.cursor.toNat) v s.cursor.toNat = c at *
  simp only [List.length_drop, State.entries_length] at h2
  refine ⟨h1, fun k hk1 hk2 => ?_, fun hc => h4 _ ?_⟩
  · have hk : k < s.n.toNat := by omega
    refine ⟨hk, h3 k _ hk1 hk2 ?_⟩
    rw [List.getElem?_drop, show s.cursor.toNat + (k - s.cursor.toNat) = k by omega, s.entries_getElem? hk]
  · rw [List.getElem?_drop, show s.cursor.toNat + (c - s.cursor.toNat) = c by omega, s.entries_getElem? hc]

/-! ### What no command, and no host access, changes -/

/-- What every command leaves alone, and that it completes; only BUILD writes PT, FB and BUILT. -/
structure CommandKept (i : Instr) (s t : State) : Prop where
  port : PortKept s t
  idle : t.pending = none
  done : t.status.done = true
  ovr : t.status.ovr = s.status.ovr
  err : s.status.err = true → t.status.err = true
  built : s.status.built = true → t.status.built = true
  tables : i ≠ .build → t.pt = s.pt ∧ t.fb = s.fb ∧ t.status.built = s.status.built

theorem commandKept_raiseError (i : Instr) (s : State) (record : Bool) (cause : Cause) :
    CommandKept i s (({ s with unwrittenRead := record } : State).raiseError cause) :=
  ⟨⟨rfl, rfl, rfl, rfl, rfl, rfl, rfl, rfl, rfl⟩, rfl, rfl, rfl, fun _ => rfl, id, fun _ => ⟨rfl, rfl, rfl⟩⟩

/-- LOOKUP's writes after a filter hit: besides rd, CURSOR, counters and flags, nothing. -/
theorem commandKept_lookupConfirmed (i : Instr) (s : State) (rd rs1 : Reg) (answer : Confirmation) :
    CommandKept i s
      (lookupConfirmed rd ((s.noteRead rs1).updCounters Counters.countLookup) answer).succeed := by
  obtain ⟨_ | j, c⟩ := answer
  all_goals
    refine ⟨⟨?_, ?_, ?_, ?_, ?_, ?_, ?_, ?_, ?_⟩, ?_, ?_, ?_, ?_, ?_, fun _ => ⟨?_, ?_, ?_⟩⟩ <;> simp [lookupConfirmed]

theorem exec_commandKept {i : Instr} {s t : State} (h : exec i s = .next t) : CommandKept i s t := by
  have hp : PortKept s s := ⟨rfl, rfl, rfl, rfl, rfl, rfl, rfl, rfl, rfl⟩
  cases i with
  | build =>
    simp only [exec, execBuild] at h
    split at h <;> cases h
    · exact commandKept_raiseError .build s s.unwrittenRead _
    · exact ⟨⟨rfl, rfl, rfl, rfl, rfl, rfl, rfl, rfl, rfl⟩, rfl, rfl, rfl, id, fun _ => rfl, fun hn => absurd rfl hn⟩
  | ldp rd rs1 =>
    simp only [exec, execLdp] at h
    split at h
    · cases h; exact commandKept_raiseError _ s s.unwrittenRead _
    · split at h <;> cases h
      · exact commandKept_raiseError _ s _ _
      · exact ⟨⟨rfl, rfl, rfl, rfl, rfl, rfl, rfl, rfl, rfl⟩, rfl, rfl, rfl, id, id, fun _ => ⟨rfl, rfl, rfl⟩⟩
  | lookup rd rs1 =>
    simp only [exec, execLookup] at h
    split at h
    · cases h; exact commandKept_raiseError _ s s.unwrittenRead _
    · split at h <;> cases h
      · exact ⟨⟨rfl, rfl, rfl, rfl, rfl, rfl, rfl, rfl, rfl⟩, rfl, rfl, rfl, id, id, fun _ => ⟨rfl, rfl, rfl⟩⟩
      · exact commandKept_lookupConfirmed _ s rd rs1 _
  | fprobe rs1 =>
    simp only [exec, execFprobe] at h
    split at h <;> cases h
    · exact commandKept_raiseError _ s s.unwrittenRead _
    · exact ⟨⟨rfl, rfl, rfl, rfl, rfl, rfl, rfl, rfl, rfl⟩, rfl, rfl, rfl, id, id, fun _ => ⟨rfl, rfl, rfl⟩⟩
  | setcur rs1 =>
    simp only [exec, execSetcur] at h
    split at h
    · cases h; exact commandKept_raiseError _ s s.unwrittenRead _
    · split at h <;> cases h
      · exact commandKept_raiseError _ s _ _
      · exact ⟨⟨rfl, rfl, rfl, rfl, rfl, rfl, rfl, rfl, rfl⟩, rfl, rfl, rfl, id, id, fun _ => ⟨rfl, rfl, rfl⟩⟩
  | _ => cases h; exact ⟨⟨rfl, rfl, rfl, rfl, rfl, rfl, rfl, rfl, rfl⟩, rfl, rfl, rfl, id, id, fun _ => ⟨rfl, rfl, rfl⟩⟩

/-- What no host access changes (R31, R32, R35, R36: the host cannot write PT, FB, ECAUSE or EINFO). -/
structure AccessKept (s t : State) : Prop where
  pt : t.pt = s.pt
  fb : t.fb = s.fb
  ecause : t.ecause = s.ecause
  einfo : t.einfo = s.einfo
  params : t.params = s.params
  schedule : t.schedule = s.schedule
  resets : t.resets = s.resets

theorem hostAccess_accessKept (a : HostAccess) (s : State) : AccessKept s (hostAccess a s) := by
  cases a with
  | read addr n =>
    simp only [hostAccess, hostRead]
    generalize hostRegAt (addr - s.params.epxBase) = g
    split <;> cases g <;> exact ⟨rfl, rfl, rfl, rfl, rfl, rfl, rfl⟩
  | write addr n v =>
    simp only [hostAccess, hostWrite]
    generalize hostRegAt (addr - s.params.epxBase) = g
    split
    · exact ⟨rfl, rfl, rfl, rfl, rfl, rfl, rfl⟩
    · cases g with
      | cmd => simp only [hostWriteThrough]; split <;> exact ⟨rfl, rfl, rfl, rfl, rfl, rfl, rfl⟩
      | _ => exact ⟨rfl, rfl, rfl, rfl, rfl, rfl, rfl⟩

end Sys2Proof.Machine
end

