-- ==== Sys2Proof/Laws/Runs.lean ====
section
/-! SUPPORT. Runs (70_reset_and_hazards.md R264, R265): a run ends in at most one state, step by step; what the clean start
is when no host step is listed, and that reset gives it. -/

namespace Sys2Proof.Machine

/-! ### Running -/

theorem run_zero (s : State) : Host.Core.run Sys2Proof.core 0 s = .next s := rfl

theorem run_succ {s u : State} (h : step s = .next u) (k : Nat) :
    Host.Core.run Sys2Proof.core (k + 1) s = Host.Core.run Sys2Proof.core k u := by
  have hc : Sys2Proof.core.step s = .next u := h
  simp only [Host.Core.run, hc]

/-! ### The end of a run (R264) -/

/-- A run ends in at most one state. -/
theorem runEndsAt_unique {s t t' : State} (h : s.RunEndsAt t) (h' : s.RunEndsAt t') : t = t' := by
  obtain ⟨k, hk, he, hn⟩ := h
  obtain ⟨k', hk', he', hn'⟩ := h'
  rcases Nat.lt_trichotomy k k' with hl | rfl | hl
  · exact absurd he (hn' k t hl hk)
  · exact Host.Outcome.next.inj (hk.symm.trans hk')
  · exact absurd he' (hn k' t' hl hk')

/-- A state with nothing pending and no host access left is its own run's end, whatever other turns are left. -/
theorem runEndsAt_self {s : State} (h : s.AtEnd) : s.RunEndsAt s :=
  ⟨0, run_zero s, h, fun _ _ hj => absurd hj (Nat.not_lt_zero _)⟩

/-- Before its end, a run goes on as the run from the next state does. -/
theorem runEndsAt_step {s u t : State} (hs : ¬ s.AtEnd) (hu : step s = .next u) (h : u.RunEndsAt t) : s.RunEndsAt t := by
  obtain ⟨k, hk, he, hn⟩ := h
  refine ⟨k + 1, (run_succ hu k).trans hk, he, fun j v hj hv => ?_⟩
  cases j with
  | zero => exact Host.Outcome.next.inj ((run_zero s).symm.trans hv) ▸ hs
  | succ i => exact hn i v (Nat.lt_of_succ_lt_succ hj) ((run_succ hu i).symm.trans hv)

/-- A run has at most one result. -/
theorem runResultIs_unique {s : State} {r r' : RunResult} (h : s.RunResultIs r) (h' : s.RunResultIs r') : r = r' := by
  obtain ⟨t, ht, -, rfl⟩ := h
  obtain ⟨t', ht', -, rfl⟩ := h'
  rw [runEndsAt_unique ht ht']

/-- ECAUSE and EINFO count only if ERR = 1. -/
@[simp] theorem State.result_error_eq_none (s : State) : s.result.error = none ↔ s.status.err = false := by
  cases h : s.status.err <;> simp [State.result, h]

/-! ### The clean start (R265) -/

theorem isReset_reset : State.reset.IsReset := ⟨rfl, by decide⟩

/-- A reset turn gives the reset state, where no model fault was recorded before it. -/
theorem isReset_platformReset {s : State} (hu : s.unwrittenRead = false)
    (hp : Config.legal s.params.nmax s.params.epxBase = true) : s.platformReset.IsReset :=
  ⟨by simp only [State.platformReset, hu]; rfl, hp⟩

/-- With no host step listed, the clean start is the reset state. -/
theorem cleanStart_nil {s : State} : s.CleanStart [] ↔ s.IsReset := by
  constructor
  · rintro ⟨⟨r, hr, -, h⟩, -⟩
    exact Host.Outcome.next.inj h ▸ hr
  · intro h
    refine ⟨⟨s, h, rfl, rfl⟩, ?_⟩
    rw [h.1]
    exact ⟨rfl, rfl, rfl, rfl⟩

end Sys2Proof.Machine
end

