-- ==== Sys2Proof/Tests/Slice0.lean ====
section
/-! SUPPORT. The model's own tests: ill-formed terms that WellFormed refuses, words written out from 30_encoding.md, the
vectors of 95_test_vectors.md (cited as V<n>) on one command each, and for each statement a state that meets its hypotheses. -/

namespace Sys2Proof.Tests.Slice0

-- Kernel checks one after another: side by side, their threads' stacks reserve too much memory.
set_option Elab.async false

open Sys2Proof Sys2Proof.Machine

/-! ### Small states -/

/-- After reset the host has written W1 and W2. -/
def regs (a b : Wide) : State := (State.reset.setW 1 a).setW 2 b

/-- The same with WIDTH64 = 1. -/
def regs64 (a b : Wide) : State :=
  { regs a b with config := { width64 := true, strategy := .hash } }

/-- The same with the given N and WIDTH64, for BUILD. -/
def sized (width64 : Bool) (n : Half) : State :=
  { State.reset with config := { width64 := width64, strategy := .hash }, n := n }

/-- A table built at w = 128 for N = n, and the host has written W1. -/
def ready (n : Nat) (strategy : Strategy) (a : Wide) : State :=
  ({ State.reset with
      config := { width64 := false, strategy := strategy }
      n := BitVec.ofNat 64 n
      pt := builtTable false n []
      fb := builtFilter false n
      status := { Status.reset with built := true } } : State).setW 1 a

/-- The outcome is a next state, and it passes the check. -/
def answers (o : Host.Outcome State Fault Refusal) (check : State → Bool) : Bool :=
  match o with
  | .next t => check t
  | .fault _ => false
  | .refused _ => false

/-! ### WellFormed refuses ill-formed terms -/

/-- R92: ADD takes three registers. -/
theorem test_operand_count_is_checked :
    (SourceLine.wellFormed ⟨.command .add, [.reg 3, .reg 1]⟩) = false := by decide

/-- R92: an operand of the wrong kind. -/
theorem test_operand_kind_is_checked :
    (SourceLine.wellFormed ⟨.command .mov, [.reg 3, .imm 1]⟩) = false := by decide

/-- R92: there is no w8. -/
theorem test_register_range_is_checked :
    (SourceLine.wellFormed ⟨.command .li, [.reg 8, .imm 0]⟩) = false := by decide

/-- R92: 131072 is above the range of an immediate. -/
theorem test_immediate_range_is_checked :
    (SourceLine.wellFormed ⟨.command .li, [.reg 1, .imm 131072]⟩) = false := by decide

/-- R52: an access 4 bytes wide. -/
theorem test_access_width_is_checked : (HostAccess.read 0x000 4).wellFormed 0 = false := by decide

/-- R52: an access at an offset that is no multiple of 8. -/
theorem test_access_alignment_is_checked : (HostAccess.write 0x003 8 0).wellFormed 0 = false := by decide

/-- R51: offset 4096 does not exist. -/
theorem test_access_window_is_checked : (HostAccess.read 4096 8).wellFormed 0 = false := by decide

/-- R51: the last register of the window placed at 0x10000. -/
theorem test_well_formed_access : (HostAccess.read 0x10FF8 8).wellFormed 0x10000 = true := by decide

/-! ### Decoding, from words written out by the fields of R81 and the opcodes of R86 -/

theorem test_decode_nop : decode 0b000000_000_000_000_00000000000000000#32 = .ok .nop := by decide
theorem test_decode_li : decode 0b000001_001_000_000_00000000000011011#32 = .ok (.li 1 27#17) := by decide
theorem test_decode_mov : decode 0b000010_101_010_000_00000000000000000#32 = .ok (.mov 5 2) := by decide
theorem test_decode_add : decode 0b000011_011_001_010_00000000000000000#32 = .ok (.add 3 1 2) := by decide
theorem test_decode_mul : decode 0b000100_011_001_010_00000000000000000#32 = .ok (.mul 3 1 2) := by decide
theorem test_decode_mulll : decode 0b000101_011_001_010_00000000000000000#32 = .ok (.mulll 3 1 2) := by decide
theorem test_decode_pow5 : decode 0b000110_010_001_000_00000000000000000#32 = .ok (.pow5 2 1) := by decide
theorem test_decode_cmp : decode 0b000111_000_001_010_00000000000000000#32 = .ok (.cmp 1 2) := by decide
theorem test_decode_fold16 : decode 0b001000_010_001_000_00000000000000000#32 = .ok (.fold16 2 1) := by decide
theorem test_decode_fold32 : decode 0b001001_010_001_000_00000000000000000#32 = .ok (.fold32 2 1) := by decide
theorem test_decode_fold64 : decode 0b001010_010_001_000_00000000000000000#32 = .ok (.fold64 2 1) := by decide
theorem test_decode_build : decode 0b100000_000_000_000_00000000000000000#32 = .ok .build := by decide
theorem test_decode_ldp : decode 0b100001_000_001_000_00000000000000000#32 = .ok (.ldp 0 1) := by decide
theorem test_decode_lookup : decode 0b101000_000_001_000_00000000000000000#32 = .ok (.lookup 0 1) := by decide
theorem test_decode_fprobe : decode 0b101001_000_001_000_00000000000000000#32 = .ok (.fprobe 1) := by decide
theorem test_decode_setcur : decode 0b101010_000_101_000_00000000000000000#32 = .ok (.setcur 5) := by decide

/-- V121, V125, V127, V129: a reserved-zero bit is 1. -/
theorem test_reserved_bits_are_illegal :
    decode 0x0C000001#32 = .error .reservedBit ∧ decode 0x1C800000#32 = .error .reservedBit ∧
    decode 0x04020000#32 = .error .reservedBit ∧ decode 0xA4900000#32 = .error .reservedBit := by decide

/-- V122, V123, V130: a reserved opcode. -/
theorem test_reserved_opcodes_are_illegal :
    decode 0x2C000000#32 = .error .reservedOpcode ∧ decode 0xFFFFFFFF#32 = .error .reservedOpcode ∧
    decode 0x7C000000#32 = .error .reservedOpcode := by decide

/-- R94's words for LI and SETCUR, encoded. -/
theorem test_encode : encode (.li 7 131071#17) = 0x0781FFFF#32 ∧ encode (.setcur 5) = 0xA8500000#32 := by decide

/-- V140, R53: the byte lanes of a CMD write of 0x0D940000. -/
theorem test_byte_lanes :
    byteLane 0x0D940000#64 0 = 0x00#8 ∧ byteLane 0x0D940000#64 2 = 0x94#8 ∧
    byteLane 0x0D940000#64 3 = 0x0D#8 ∧ byteLane 0x0D940000#64 4 = 0x00#8 := by decide

/-- R92: mnemonics are case-insensitive, `;` starts a comment, immediates may be hexadecimal. -/
theorem test_assembler_text :
    assembleText "  LI w7, 0x1ffff ; largest" = some (.li 7 131071#17) ∧
    assembleText "clr w3" = some (.li 3 0#17) ∧ assembleText "li w1, 131072" = none ∧
    assembleText "mov w8, w0" = none := by decide +kernel

/-! ### WideInteger -/

/-- V65: only CMDCNT and DONE change. -/
theorem test_nop_counts_and_sets_done :
    answers (exec .nop { State.reset with counters := { cmdcnt := 4, lkcnt := 0, fhcnt := 0, hitcnt := 0 } })
      (fun t => t.counters.cmdcnt == 5 && t.status.done && t.w == State.reset.w) = true := by decide +kernel

/-- V62: the high half is cleared too. -/
theorem test_li_clears_the_high_half :
    answers (exec (.li 0 0#17) (State.reset.setW 0 ones128)) (fun t => t.x 0 == 0) = true := by decide +kernel

/-- V61. -/
theorem test_li_zero_extends :
    answers (exec (.li 7 131071#17) State.reset) (fun t => t.x 7 == 0x1FFFF#128) = true := by decide +kernel

/-- V64: MOV ignores w. -/
theorem test_mov_ignores_the_width :
    answers (exec (.mov 3 2) (regs64 0 ones128)) (fun t => t.x 3 == ones128 && !t.unwrittenRead) = true := by decide +kernel

/-- V150: MOV of an unwritten register. -/
theorem test_mov_records_an_unwritten_read :
    answers (exec (.mov 1 0) State.reset) (fun t => t.unwrittenRead && t.written 1) = true := by decide +kernel

/-- V5: a carry from the low half into the high half. -/
theorem test_add_carries_into_the_high_half :
    answers (exec (.add 3 1 2) (regs 0xFFFFFFFFFFFFFFFF#128 1#128))
      (fun t => t.x 3 == 0x10000000000000000#128 && !t.status.c) = true := by decide +kernel

/-- R105 at w = 64: the high halves are ignored, and the carry out of bit 63 is C. -/
theorem test_add_at_width_64 :
    answers (exec (.add 3 1 2) (regs64 0x5FFFFFFFFFFFFFFFF#128 1#128))
      (fun t => t.x 3 == 0#128 && t.status.c) = true := by decide +kernel

/-- V132: rd is also both sources. -/
theorem test_mul_over_its_sources :
    answers (exec (.mul 1 1 1) (regs 0x10000000000000003#128 0))
      (fun t => t.x 1 == 0x60000000000000009#128 && t.status.v) = true := by decide +kernel

/-- V29: MULLL is exact and clears V, whatever w is. -/
theorem test_mulll_is_exact :
    answers (exec (.mulll 3 1 2) ((regs64 ones128 ones128).updStatus (·.setV true)))
      (fun t => t.x 3 == 0xFFFFFFFFFFFFFFFE0000000000000001#128 && !t.status.v) = true := by decide +kernel

/-- V151: MULLL reads the whole of each source. -/
theorem test_mulll_records_an_unwritten_high_half :
    answers (exec (.mulll 1 0 0) (State.reset.setLo 0 7)) (fun t => t.unwrittenRead) = true := by decide +kernel

/-- V36, V37: the last value whose fifth power fits in 128 bits, and the first that does not. -/
theorem test_pow5_at_width_128 :
    answers (exec (.pow5 2 1) (regs 0x3080C00#128 0))
      (fun t => t.x 2 == 0xFFFFFF3CD1DF7DABABCC000000000000#128 && !t.status.v) = true ∧
    answers (exec (.pow5 2 1) (regs 0x3080C01#128 0))
      (fun t => t.x 2 == 0xE30FF61D2EFD6EA19B14C83C01#128 && t.status.v) = true := by decide +kernel

/-- V40, V41: the same at w = 64. -/
theorem test_pow5_at_width_64 :
    answers (exec (.pow5 2 1) (regs64 0x1BDB#128 0))
      (fun t => t.x 2 == 0xFFE6B9018F61B12B#128 && !t.status.v) = true ∧
    answers (exec (.pow5 2 1) (regs64 0x1BDC#128 0))
      (fun t => t.x 2 == 0x14AB5898715C00#128 && t.status.v) = true := by decide +kernel

/-- V50: the high half decides. -/
theorem test_cmp_compares_the_high_halves :
    answers (exec (.cmp 1 2) (regs 0x10000000000000005#128 0x20000000000000004#128))
      (fun t => !t.status.eq && t.status.lt) = true := by decide +kernel

/-- V56. -/
theorem test_fold16 :
    answers (exec (.fold16 2 1) (regs 0x84579FB52B1408201B91F#128 0)) (fun t => t.x 2 == 0x347D#128) = true := by decide +kernel

/-- V56. -/
theorem test_fold32 :
    answers (exec (.fold32 2 1) (regs 0x84579FB52B1408201B91F#128 0)) (fun t => t.x 2 == 0x795B4D26#128) = true := by
  decide +kernel

/-- V56. -/
theorem test_fold64 :
    answers (exec (.fold64 2 1) (regs 0x84579FB52B1408201B91F#128 0))
      (fun t => t.x 2 == 0xFB52B1408209FC66#128) = true := by decide +kernel

/-! ### PowerTable -/

/-- V67: N = 2 gives PT = [0, 1] and exactly FB[0] and FB[1]. -/
theorem test_build_two :
    answers (exec .build (sized false 2))
      (fun t => t.ptRead 0 == 0 && t.ptRead 1 == 1 && t.fb == 3 && t.status.built && !t.status.err) = true := by
  decide +kernel

/-- V69, V71, V74, V75: the checks and their order. -/
theorem test_build_errors :
    answers (exec .build (sized false 0)) (fun t => t.ecause == .cfgNSmall && !t.status.built) = true ∧
    answers (exec .build (sized false 131073)) (fun t => t.ecause == .cfgNLarge) = true ∧
    answers (exec .build (sized true 7133)) (fun t => t.ecause == .cfgWidth) = true ∧
    answers (exec .build (sized true 200000)) (fun t => t.ecause == .cfgNLarge) = true := by decide +kernel

/-- V135: 144^5, with rd also the source. -/
theorem test_ldp_over_its_source :
    answers (exec (.ldp 1 1) (ready 150 .hash 0x90#128)) (fun t => t.x 1 == 0xE6A900000#128) = true := by decide +kernel

/-- V83: all 128 bits of the index count. -/
theorem test_ldp_checks_the_whole_index :
    answers (exec (.ldp 0 1) (ready 150 .hash 0x10000000000000000#128))
      (fun t => t.ecause == .indexRange && t.status.err && !t.written 0) = true := by decide +kernel

/-! ### MembershipIndex -/

/-- V87, V91: a member, and a filter false positive, under HASH. -/
theorem test_lookup_hash :
    answers (exec (.lookup 0 1) (ready 150 .hash 0xE6A900000#128))
      (fun t => t.x 0 == 0x90#128 && t.status.hit && t.counters.hitcnt == 1 && t.cursor == 0) = true ∧
    answers (exec (.lookup 0 1) (ready 150 .hash 0xE00006A90#128))
      (fun t => t.x 0 == ones128 && t.status.fh && !t.status.hit && t.counters.fhcnt == 1 && t.counters.hitcnt == 0) = true := by
  decide +kernel

/-- V99, V101: SCAN from CURSOR = 27 up to 84^5, and 133^5 below CURSOR = 144. -/
theorem test_lookup_scan :
    answers (exec (.lookup 0 1) ((ready 150 .scan 0xF9461400#128).setCursor 27))
      (fun t => t.x 0 == 0x54#128 && t.status.hit && t.cursor == 84) = true ∧
    answers (exec (.lookup 0 1) ((ready 150 .scan 0x9B07EA6B5#128).setCursor 144))
      (fun t => t.x 0 == ones128 && t.status.fh && !t.status.hit && t.cursor == 144) = true := by decide +kernel

/-- V111: HIT stays as it was, and no lookup is counted. -/
theorem test_fprobe_leaves_hit :
    answers (exec (.fprobe 1) ((ready 150 .hash 0xE00006A90#128).updStatus (·.setHit true)))
      (fun t => t.status.fh && t.status.hit && t.counters.lkcnt == 0 && t.cursor == 0) = true := by decide +kernel

/-- V117, V118: N is a legal cursor, N + 1 is not. -/
theorem test_setcur_range :
    answers (exec (.setcur 1) (ready 150 .hash 0x96#128)) (fun t => t.cursor == 150 && !t.status.err) = true ∧
    answers (exec (.setcur 1) ((ready 150 .hash 0x97#128).setCursor 7))
      (fun t => t.cursor == 7 && t.ecause == .cursorRange) = true := by decide +kernel

/-! ### The host port, errors and reset -/

/-- V147, V148: reserved bits of CONFIG and IRQEN. -/
theorem test_reserved_bits_of_config_and_irqen :
    answers (step (State.reset.hostWrites 0x020 0xFFFFFFFFFFFFFFFF#64)) (fun t => t.config.word == 3) = true ∧
    answers (step (State.reset.hostWrites 0x038 7)) (fun t => t.irqen.word == 3) = true := by decide +kernel

/-- V141: bits [63:32] of a CMD write are ignored. -/
theorem test_cmd_write_ignores_the_high_bits :
    answers (step (State.reset.hostWrites 0x000 0xFFFFFFFF00000000#64))
      (fun t => t.pending == some 0 && t.cmd == 0) = true := by decide +kernel

/-- V142: a CMD write while BUSY is dropped. -/
theorem test_cmd_write_while_busy_is_dropped :
    answers (step ((State.reset.accept 0x0480001B#32).hostWrites 0x000 0))
      (fun t => t.status.ovr && t.pending == some 0x0480001B#32) = true := by decide +kernel

/-- V144: a write of the same N clears BUILT. -/
theorem test_n_write_clears_built :
    answers (step ((ready 150 .hash 5#128).hostWrites 0x028 150)) (fun t => !t.status.built && t.cursor == 0) = true := by
  decide +kernel

/-- V154: the host reads an unwritten half. -/
theorem test_host_read_of_an_unwritten_half :
    answers (step (State.reset.hostReads 0x0B0)) (fun t => t.unwrittenRead) = true := by decide +kernel

/-- V114: NOT_BUILT comes before the operand read (as V155 has it for LOOKUP). -/
theorem test_fprobe_not_built :
    answers (exec (.fprobe 1) (State.reset.accept 0xA4100000#32))
      (fun t => t.ecause == .notBuilt && t.einfo == 0xA4100000#64 && t.status.err && !t.unwrittenRead) = true := by
  decide +kernel

/-- V156: reset. -/
theorem test_reset_turn :
    answers (step { ready 150 .hash 5#128 with schedule := [.reset] })
      (fun t => { t with resets := 0 } == State.reset) = true := by decide +kernel

/-- V160, V162: IRQ. -/
theorem test_irq :
    ({ State.reset with
        status := { Status.reset with done := true, err := true }
        irqen := { doneie := false, errie := true } } : State).irq = true ∧
    ({ State.reset with
        status := { Status.reset with err := true }
        irqen := { doneie := true, errie := false } } : State).irq = false := by decide

/-- The table's word for LI is placed and executed by the next step. -/
theorem test_placed_word_is_executed :
    answers (step (State.reset.withFetchWord 32 0x0480001B)) (fun t => t.x 1 == 27#128) = true := by decide +kernel

/-! ### Runs -/

/-- R264: the run of a host that has nothing left to do ends here, although a reset is still to come. -/
theorem test_run_ends_before_a_later_reset :
    State.RunEndsAt { regs 5#128 7#128 with schedule := [.reset] } { regs 5#128 7#128 with schedule := [.reset] } :=
  runEndsAt_self ⟨rfl, rfl⟩

/-- R264, V124: the run of one CMD write of an illegal word ends when the command completes, with the error in its result. -/
theorem test_run_result_holds_the_error :
    State.RunResultIs (State.reset.hostWrites 0x000 0x00000001#64)
      { w := Vector.replicate 8 { lo := none, hi := none }
        status := 0xC
        cursor := 0
        counters := { cmdcnt := 0, lkcnt := 0, fhcnt := 0, hitcnt := 0 }
        error := some { ecause := 1, einfo := 1 } } :=
  ⟨(State.reset.accept 0x00000001#32).raiseError .illegal,
    runEndsAt_step (fun h => absurd h.1 (by decide)) rfl
      (runEndsAt_step (fun h => absurd h.2 (by decide)) rfl (runEndsAt_self ⟨rfl, rfl⟩)),
    ⟨⟨rfl, rfl⟩, rfl⟩, by decide +kernel⟩

/-- R265: after the listed host step "write N <- 150" the machine is at that clean start, N written. -/
theorem test_clean_start_after_a_host_step :
    (State.reset.setN 150).CleanStart [.write 0x028 8 150] :=
  ⟨⟨{ State.reset with schedule := [.host (.write 0x028 8 150), .block] }, ⟨rfl, by decide⟩, rfl, rfl⟩, rfl, rfl, rfl, rfl⟩

/-- R265: a state with BUILT = 1 and no host step listed is no clean start. -/
theorem test_built_is_no_clean_start :
    ¬ State.CleanStart [] { State.reset with status := { Status.reset with built := true } } := by
  rw [cleanStart_nil]
  rintro ⟨h, -⟩
  exact absurd (congrArg (fun s => s.status.built) h) (by decide)

/-! ### Witnesses: states and operands that meet each statement's hypotheses -/

/-- What BUILD leaves for N = n at w = 128 is a valid table. -/
theorem tableValid_ready (n : Nat) (strategy : Strategy) (a : Wide) (h2 : 2 ≤ n) (h : n ≤ 131072) :
    TableValid (ready n strategy a) := by
  have hn : (ready n strategy a).n.toNat = n := Nat.mod_eq_of_lt (by omega)
  have hw : widthBits (ready n strategy a).config.width64 = 128 := rfl
  have hp : ∀ i, i < n → (ready n strategy a).ptRead i = tableEntry false i := fun i hi =>
    builtTable_getD_lt false [] hi _
  have hb : ∀ i, i < n → i ^ 5 < 2 ^ 128 := fun i hi =>
    lt_of_lt_of_le (Nat.pow_lt_pow_left (show i < 131072 by omega) (by decide)) (by decide)
  refine ⟨by omega, by rw [hn]; exact h, ?_, fun i hi => ?_, fun key => ?_, ?_⟩
  · have : (ready n strategy a).pt.length = max n 0 := builtTable_length false n []
    omega
  · rw [hn] at hi
    rw [hp i hi, hw]
    exact ⟨tableEntry_toNat false (hb i hi), hb i hi⟩
  · rw [hn]
    have : filterBit (ready n strategy a).fb key = true ↔ _ := filterBit_builtFilter false n key
    rw [this]
    exact exists_congr fun i => and_congr_right fun hi => by rw [hp i hi]
  · exact Nat.zero_le _

/-- A state with a valid table that also meets the invariant. -/
theorem inv_ready (n : Nat) (strategy : Strategy) (a : Wide) (h2 : 2 ≤ n) (h : n ≤ 131072) :
    Inv (ready n strategy a) where
  busy := by
    have hs : (ready n strategy a).statusWord.getLsbD 0 = false := by
      show (Status.word false { Status.reset with built := true }).getLsbD 0 = false
      decide
    have hp : (ready n strategy a).pending = none := rfl
    rw [hs, hp]
    decide
  table := fun _ => tableValid_ready n strategy a h2 h
  errIdle := fun _ => rfl
  cmdWord := fun _ hw => by cases hw
  cmdHigh := by show (0 : Half).toNat < 2 ^ 32; decide
  einfoHigh := by show (0 : Half).toNat < 2 ^ 32; decide
  params := by show Config.legal 131072 0 = true; decide
  tableWf := by
    have : (ready n strategy a).pt.length = max n 0 := builtTable_length false n []
    have hl : (ready n strategy a).pt.length ≤ 131072 := by omega
    exact decide_eq_true hl

/-- Encoding and decoding: a word that decodes, one that matches its row, one that does not decode. -/
theorem witness_EveryLegalWordIsItsCommandsWord : decode 0x0781FFFF#32 = .ok (.li 7 131071#17) := by decide
theorem witness_WordDecodesByMaskAndMatch : 0x1C140000#32 &&& Mnemonic.cmp.mask = Mnemonic.cmp.matchBits := by decide

theorem witness_IllegalWordEndsInErrorIllegal :
    (State.reset.placeWord 0x0C000001#32).turn = .block ∧
    (State.reset.placeWord 0x0C000001#32).pending = some 0x0C000001#32 ∧
    decode 0x0C000001#32 = .error .reservedBit := by decide

theorem witness_StepExecutesThePendingCommand :
    (State.reset.placeWord 0x0480001B#32).turn = .block ∧
    (State.reset.placeWord 0x0480001B#32).pending = some 0x0480001B#32 ∧
    decode 0x0480001B#32 = .ok (.li 1 27#17) := by decide

theorem witness_PlacedWordIsExecutedNext : decodeTableWord 32 0xA8500000 = some (.setcur 5) := by decide

theorem witness_IdleBlockChangesNothing : State.reset.turn = .block ∧ State.reset.pending = none := by decide

/-- ADD, MUL and POW5 in each width. -/
theorem witness_AddCarriesFromTheLowHalfIntoTheHighHalf :
    (regs ones128 1#128).config.width64 = false ∧ (regs64 ones128 1#128).config.width64 = true := by decide
theorem witness_MulSumsThreePartialProducts :
    (regs ones128 ones128).config.width64 = false ∧ (regs64 ones128 ones128).config.width64 = true := by decide
theorem witness_Pow5IsTheFifthPowerModuloTwoToTheW :
    (regs 0x3080C01#128 0).config.width64 = false ∧ (regs64 0x1BDC#128 0).config.width64 = true := by decide
theorem witness_AddAndMulAgreeWithExactArithmetic : (regs ones128 ones128).config.width64 = false := by decide

/-- Each width, and BUILD on the two sides of its threshold. -/
theorem witness_WidthThresholdsAreExact :
    (regs 50859009#128 0).config.width64 = false ∧ (regs64 7132#128 0).config.width64 = true ∧
    (2 ≤ (sized true 7132).n.toNat ∧ (sized true 7132).n.toNat ≤ (sized true 7132).params.nmax) ∧
    (2 ≤ (sized true 7133).n.toNat ∧ (sized true 7133).n.toNat ≤ (sized true 7133).params.nmax) ∧
    ∀ n, (sized true n).config.width64 = true :=
  ⟨rfl, rfl, by decide +kernel, by decide +kernel, fun _ => rfl⟩

/-- The smallest table, the largest, and the largest at w = 64. -/
theorem witness_BuildBuildsTableAndFilter :
    ∀ s ∈ [sized false 2, sized false 131072, sized true 7132],
      Config.legal s.params.nmax s.params.epxBase = true ∧ 2 ≤ s.n.toNat ∧ s.n.toNat ≤ s.params.nmax ∧
      (s.config.width64 = true → (s.n.toNat - 1) ^ 5 ≤ 2 ^ 64 - 1) := by decide +kernel

/-- N = 1, N = 2, N = NMAX, N = NMAX + 1, and 7132 and 7133 at w = 64. -/
theorem witness_BuildChecksRunInOrder :
    (∀ width64 n, ((sized width64 n).accept 0x80000000#32).pending = some 0x80000000#32) ∧
    ((sized false 1).accept 0x80000000#32).n.toNat ≤ 1 ∧
    (2 ≤ ((sized false 131073).accept 0x80000000#32).n.toNat ∧
      ((sized false 131073).accept 0x80000000#32).params.nmax < ((sized false 131073).accept 0x80000000#32).n.toNat) ∧
    (2 ≤ ((sized true 7133).accept 0x80000000#32).n.toNat ∧
      ((sized true 7133).accept 0x80000000#32).n.toNat ≤ ((sized true 7133).accept 0x80000000#32).params.nmax ∧
      2 ^ 64 - 1 < (((sized true 7133).accept 0x80000000#32).n.toNat - 1) ^ 5) ∧
    (2 ≤ ((sized true 7132).accept 0x80000000#32).n.toNat ∧
      ((sized true 7132).accept 0x80000000#32).n.toNat ≤ ((sized true 7132).accept 0x80000000#32).params.nmax ∧
      (((sized true 7132).accept 0x80000000#32).n.toNat - 1) ^ 5 ≤ 2 ^ 64 - 1) ∧
    2 ≤ ((sized false 2).accept 0x80000000#32).n.toNat ∧
    ((sized false 131072).accept 0x80000000#32).n.toNat ≤ ((sized false 131072).accept 0x80000000#32).params.nmax :=
  ⟨fun _ _ => rfl, by decide +kernel⟩

theorem witness_RebuildGivesTheSameTables : TableValid (ready 150 .hash 5#128) :=
  tableValid_ready 150 .hash 5#128 (by decide) (by decide)

theorem witness_BuiltTableStrictlyIncreases :
    TableValid (ready 150 .hash 0x95#128) ∧ (ready 150 .hash 0x95#128).status.built = true ∧
    ((ready 150 .hash 0x95#128).x 1).toNat < (ready 150 .hash 0x95#128).n.toNat :=
  ⟨tableValid_ready 150 .hash 0x95#128 (by decide) (by decide), rfl, by decide +kernel⟩

/-- Not built; the index N; the index N - 1. -/
theorem witness_LdpReadsTheEntryOrFails :
    ((regs 5#128 0).accept 0x84100000#32).status.built = false ∧
    ((regs 5#128 0).accept 0x84100000#32).pending = some 0x84100000#32 ∧
    ((ready 150 .hash 0x96#128).accept 0x84100000#32).status.built = true ∧
    ((ready 150 .hash 0x96#128).accept 0x84100000#32).n.toNat ≤ (((ready 150 .hash 0x96#128).accept 0x84100000#32).x 1).toNat ∧
    (((ready 150 .hash 0x95#128).accept 0x84100000#32).x 1).toNat < ((ready 150 .hash 0x95#128).accept 0x84100000#32).n.toNat := by decide +kernel

/-- No base below 144 has the fifth power 144^5. -/
theorem no_smaller_base_of_144 {s : State} (hv : TableValid s) (k : Nat) (hk : k < 144) :
    ¬ s.IsBase 0xE6A900000#128 k := by
  rintro ⟨hn, he⟩
  have h5 := (hv.power k hn).1
  have hm : k ^ 5 ≤ 143 ^ 5 := Nat.pow_le_pow_left (by omega) 5
  have hx : (0xE6A900000#128).toNat = 61917364224 := rfl
  rw [he, hx] at h5
  omega

/-- 0xE00006A90 lies between 143^5 and 144^5. -/
theorem no_base_of_the_false_positive {s : State} (hv : TableValid s) (k : Nat) : ¬ s.IsBase 0xE00006A90#128 k := by
  rintro ⟨hn, he⟩
  have h5 := (hv.power k hn).1
  have hx : (0xE00006A90#128).toNat = 60129569424 := rfl
  rw [he, hx] at h5
  rcases Nat.lt_or_ge k 144 with hk | hk
  · have hm : k ^ 5 ≤ 143 ^ 5 := Nat.pow_le_pow_left (by omega) 5
    omega
  · have hm : 144 ^ 5 ≤ k ^ 5 := Nat.pow_le_pow_left hk 5
    omega

/-- 144^5 is the base 144 and no smaller one; 0xE00006A90 passes the filter and is no entry; 2 does not pass. -/
theorem witness_LookupFollowsItsPseudocode :
    ((State.reset.accept 0xA0100000#32).status.built = false ∧
      (State.reset.accept 0xA0100000#32).pending = some 0xA0100000#32) ∧
    (∀ strategy v, (ready 150 strategy v).status.built = true ∧ (ready 150 strategy v).config.strategy = strategy) ∧
    filterBit (ready 150 .hash 0xE6A900000#128).fb (fold16 ((ready 150 .hash 0xE6A900000#128).x 1)) = true ∧
    filterBit (ready 150 .hash 0xE00006A90#128).fb (fold16 ((ready 150 .hash 0xE00006A90#128).x 1)) = true ∧
    filterBit (ready 150 .hash 2#128).fb (fold16 ((ready 150 .hash 2#128).x 1)) = false ∧
    (ready 150 .hash 0#128).IsBase 0xE6A900000#128 144 ∧
    (∀ k, k < 144 → ¬ (ready 150 .hash 0#128).IsBase 0xE6A900000#128 k) ∧
    (∀ k, ¬ (ready 150 .hash 0#128).IsBase 0xE00006A90#128 k) :=
  have hv := tableValid_ready 150 .hash 0#128 (by decide) (by decide)
  ⟨by decide, fun _ _ => ⟨rfl, rfl⟩, by decide +kernel, by decide +kernel, by decide +kernel, ⟨by decide +kernel, by decide +kernel⟩,
    no_smaller_base_of_144 hv, no_base_of_the_false_positive hv⟩

/-- The hypotheses of LOOKUP's other statements: a built table under each strategy, and a member that passes the filter,
with CURSOR below, at and above its base. -/
theorem witness_ScanConfirmsFromTheCursorOn :
    (∀ v, (ready 150 .scan v).status.built = true ∧ (ready 150 .scan v).config.strategy = .scan ∧
      TableValid (ready 150 .scan v)) ∧
    filterBit (ready 150 .scan 0x9B07EA6B5#128).fb (fold16 ((ready 150 .scan 0x9B07EA6B5#128).x 1)) = true ∧
    (ready 150 .scan 0x9B07EA6B5#128).IsBase 0x9B07EA6B5#128 133 :=
  ⟨fun v => ⟨rfl, rfl, tableValid_ready 150 .scan v (by decide) (by decide)⟩, by decide +kernel,
    ⟨by decide +kernel, by decide +kernel⟩⟩

theorem witness_LookupIsSound :
    ∀ strategy, TableValid (ready 150 strategy 0xE6A900000#128) ∧
      (ready 150 strategy 0xE6A900000#128).status.built = true ∧
      (ready 150 strategy 0xE6A900000#128).config.strategy = strategy :=
  fun strategy => ⟨tableValid_ready 150 strategy _ (by decide) (by decide), rfl, rfl⟩

/-- 2 is no entry, so every base of it, there being none, is at or above the cursor; and CURSOR = 0 is below every base. -/
theorem witness_HashAndScanAgree :
    TableValid (ready 150 .scan 0xE6A900000#128) ∧ (ready 150 .scan 0xE6A900000#128).status.built = true ∧
    ∀ i, (ready 150 .scan 0xE6A900000#128).IsBase ((ready 150 .scan 0xE6A900000#128).x 1) i →
      (ready 150 .scan 0xE6A900000#128).cursor.toNat ≤ i :=
  ⟨tableValid_ready 150 .scan _ (by decide) (by decide), rfl, fun i _ => Nat.zero_le i⟩

theorem witness_FprobeWritesOnlyFh :
    (State.reset.accept 0xA4100000#32).status.built = false ∧
    (State.reset.accept 0xA4100000#32).pending = some 0xA4100000#32 ∧
    (ready 150 .hash 0xE00006A90#128).status.built = true := by decide +kernel

/-- Not built; N + 1; N. -/
theorem witness_SetcurSetsTheCursorUpToN :
    (State.reset.accept 0xA8500000#32).status.built = false ∧
    (State.reset.accept 0xA8500000#32).pending = some 0xA8500000#32 ∧
    ((ready 150 .hash 0x97#128).accept 0xA8100000#32).status.built = true ∧
    ((ready 150 .hash 0x97#128).accept 0xA8100000#32).n.toNat < (((ready 150 .hash 0x97#128).accept 0xA8100000#32).x 1).toNat ∧
    (((ready 150 .hash 0x96#128).accept 0xA8100000#32).x 1).toNat ≤ ((ready 150 .hash 0x96#128).accept 0xA8100000#32).n.toNat := by decide +kernel

theorem witness_EveryCommandCompletesOrFailsPrecisely :
    ((regs 5#128 7#128).accept 0x0D940000#32).pending = some 0x0D940000#32 := by decide

/-- BUILD with N = 0 answers a next state with ERR newly set. -/
theorem witness_EachErrorBelongsToItsCommand :
    State.reset.status.err = false ∧
    exec .build State.reset = .next (State.reset.raiseError .cfgNSmall) ∧
    (State.reset.raiseError .cfgNSmall).status.err = true := ⟨rfl, rfl, rfl⟩

/-- The same run meets the hypotheses of the first part of the flags' statement, and of the first of UNWRITTEN_READ's. -/
theorem witness_FlagsAreWrittenByTheirCommandsAndReadByNone :
    exec .build State.reset = .next (State.reset.raiseError .cfgNSmall) ∧ Instr.mnemonic .build ≠ .add ∧
    Instr.mnemonic .build ≠ .mul ∧ Instr.mnemonic .build ≠ .mulll ∧ Instr.mnemonic .build ≠ .pow5 ∧
    Instr.mnemonic .build ≠ .cmp ∧ Instr.mnemonic .build ≠ .lookup ∧ Instr.mnemonic .build ≠ .fprobe :=
  ⟨rfl, by decide⟩

/-- An idle state for the accesses; a state with the record set, whose block turn is a step. -/
theorem witness_UnwrittenReadsAreRecorded :
    exec (.mov 1 0) State.reset = .next ((State.reset.noteRead 0).setW 1 (State.reset.x 0)).succeed ∧
    State.reset.pending = none ∧
    step { State.reset with unwrittenRead := true } = .next { State.reset with unwrittenRead := true } :=
  ⟨rfl, rfl, rfl⟩

/-- Idle without error; busy; idle with an error. -/
theorem witness_CmdWriteIsAcceptedOrDropped :
    (State.reset.pending = none ∧ State.reset.status.err = false) ∧
    (State.reset.accept 0#32).pending ≠ none ∧ (State.reset.raiseError .illegal).status.err = true := by decide

theorem witness_StatusWriteClearsWhereOne :
    (State.reset.raiseError .illegal).pending = none ∧ (0x1C#64).getLsbD 3 = true := by decide

theorem witness_ConfigAndNWritesUnbuild :
    (ready 150 .scan 5#128).pending = none ∧ (ready 150 .scan 5#128).status.built = true := by decide +kernel

theorem witness_WHalfCounterAndIrqenWrites : (regs 5#128 7#128).pending = none := by decide

/-- A busy state, and offsets at both ends of each range: dropped, ignored, drawn. -/
theorem witness_AccessesWhileBusy :
    (State.reset.accept 0x0480001B#32).pending = some 0x0480001B#32 ∧
    (∀ off ∈ [0x040, 0x058, 0x080, 0x0F8], off % 8 = 0 ∧ (0x040 ≤ off ∧ off < 0x060 ∨ 0x080 ≤ off ∧ off < 0x100)) ∧
    (∀ off ∈ [0x060, 0x078, 0x100, 0xFF8], off % 8 = 0 ∧ (0x060 ≤ off ∧ off < 0x080 ∨ 0x100 ≤ off ∧ off < 0x1000)) := by
  decide

/-- An idle state with W1 written and W3 not. -/
theorem witness_IdleReadsReturnTheRegister :
    (regs 5#128 7#128).pending = none ∧ (regs 5#128 7#128).w[1].loWritten = true ∧
    (regs 5#128 7#128).w[1].hiWritten = true ∧ (regs 5#128 7#128).w[3].loWritten = false ∧
    (regs 5#128 7#128).w[3].hiWritten = false := by decide

/-- The first and the last offset of each reserved range; the reserved bits of STATUS. -/
theorem witness_ReservedOffsetsAndBits :
    (∀ off ∈ [0x060, 0x078, 0x100, 0xFF8],
      off % 8 = 0 ∧ (0x060 ≤ off ∧ off < 0x080 ∨ 0x100 ≤ off ∧ off < 0x1000)) ∧
    State.reset.pending = none ∧ 0xFFFFFFFFFFFFFFE3#64 &&& 0x1C#64 = 0 ∧ (∀ k ∈ [5, 7, 14, 63], (5 ≤ k ∧ k ≤ 7) ∨ 14 ≤ k) := by decide

/-- A narrow access, a misaligned one, the last good one, and one past the window. -/
theorem witness_MalformedAccessHasNoStep :
    (∀ a ∈ [HostAccess.read 0x0000 4, .read 0x0004 8, .write 0x0FF8 8 0, .read 0x1000 8],
      ({ State.reset with schedule := [.host a] } : State).turn = .host a) ∧
    (HostAccess.read 0x0000 4).size ≠ 8 ∧ (HostAccess.read 0x0004 8).addr % 8 ≠ 0 ∧
    (HostAccess.write 0x0FF8 8 0).addr % 8 = 0 ∧ 4096 ≤ (HostAccess.read 0x1000 8).addr := by decide

theorem witness_ErrorRecoveryByStatusWrite :
    (State.reset.raiseError .cfgNSmall).status.err = true ∧ (State.reset.raiseError .cfgNSmall).pending = none ∧
    (0x8#64).getLsbD 3 = true := by decide

theorem witness_ResetGivesEveryRegisterItsValue :
    ({ ready 150 .hash 5#128 with schedule := [.reset] } : State).turn = .reset ∧
    step { ready 150 .hash 5#128 with schedule := [.reset] }
      = .next (State.platformReset { ready 150 .hash 5#128 with schedule := [] }) := ⟨rfl, rfl⟩

theorem witness_ResetTurnAbandonsThePendingCommand :
    ({ State.reset with schedule := [.reset], pending := some 0#32 } : State).turn = .reset := by decide

/-- An LI completes over a built table. -/
theorem witness_OnlyBuildWritesTheTables :
    step ((ready 150 .hash 5#128).placeWord 0x0480001B#32)
      = .next (((ready 150 .hash 5#128).accept 0x0480001B#32).setW 1 (immediate 27#17)).succeed ∧
    ((ready 150 .hash 5#128).placeWord 0x0480001B#32).turn ≠ .reset ∧
    ((ready 150 .hash 5#128).placeWord 0x0480001B#32).pending ≠ some 0x80000000#32 :=
  ⟨rfl, by decide +kernel, by decide +kernel⟩

/-- BUILT rises in a BUILD, and falls in a host write of N. -/
theorem witness_BuiltChangesOnlyByBuildConfigNAndReset :
    (sized false 2).status.built = false ∧
    answers (step ((sized false 2).placeWord 0x80000000#32)) (fun t => t.status.built) = true ∧
    (ready 2 .hash 0#128).status.built = true ∧
    answers (step ((ready 2 .hash 0#128).hostWrites 0x028 2)) (fun t => !t.status.built) = true := by decide +kernel

/-- DONE, ERR and OVR, all set, fall in one write of STATUS. -/
theorem witness_StickyBitsFallOnlyByWriteOrReset :
    answers
      (step (({ State.reset with
          status := { Status.reset with done := true, err := true, ovr := true } } : State).hostWrites 0x008 0x1C))
      (fun t => !t.status.done && !t.status.err && !t.status.ovr) = true := by decide +kernel

/-- A command pending, and three host accesses before the block's turn. -/
theorem witness_PendingCommandCompletesAfterTheHostsSteps :
    ({ State.reset.accept 0#32 with
        schedule := [.host (.read 0x008 8), .host (.write 0x000 8 5), .host (.read 0x0B0 8)] } : State).pending
      = some 0#32 ∧
    ∀ u ∈ [Turn.host (.read 0x008 8), .host (.write 0x000 8 5), .host (.read 0x0B0 8)],
      ∃ a : HostAccess, u = .host a ∧ a.wellFormed State.reset.params.epxBase = true := by
  refine ⟨rfl, fun u hu => ?_⟩
  simp only [List.mem_cons, List.not_mem_nil, or_false] at hu
  rcases hu with rfl | rfl | rfl
  · exact ⟨_, rfl, by decide⟩
  · exact ⟨_, rfl, by decide⟩
  · exact ⟨_, rfl, by decide⟩

theorem witness_InvariantIsKeptByEveryStep :
    Inv (ready 150 .scan 5#128) ∧ step (ready 150 .scan 5#128) = .next (ready 150 .scan 5#128) :=
  ⟨inv_ready 150 .scan 5#128 (by decide) (by decide), rfl⟩

end Sys2Proof.Tests.Slice0
end

section
/-! PROOFS. Flags and commands (10_state.md R24, R28). The one idea: of STATUS a command reads BUILT alone, and what it
does to STATUS is a fixed write, whatever the flags held before. `exec_statusWrite` says so once for all commands. -/

namespace Sys2Proof.Machine

/-! ### The writes of STATUS -/

/-- What a command writes to STATUS besides DONE: a new BUILT, a new value for some of the flags, and ERR. -/
structure StatusWrite where
  built : Option Bool := none
  c     : Option Bool := none
  v     : Option Bool := none
  eq    : Option Bool := none
  lt    : Option Bool := none
  fh    : Option Bool := none
  hit   : Option Bool := none
  error : Bool := false

/-- STATUS after the write and the completion of the command (20_memory.md R65). -/
def StatusWrite.apply (wr : StatusWrite) (st : Status) : Status where
  built := wr.built.getD st.built
  done := true
  err := wr.error || st.err
  ovr := st.ovr
  c := wr.c.getD st.c
  v := wr.v.getD st.v
  eq := wr.eq.getD st.eq
  lt := wr.lt.getD st.lt
  fh := wr.fh.getD st.fh
  hit := wr.hit.getD st.hit

/-- R24, R28: the write has a value only for the flags of its mnemonic, and an error's write has none. -/
structure StatusWrite.AllowedFor (wr : StatusWrite) (m : Mnemonic) : Prop where
  c : m ≠ .add → wr.c = none
  v : m ≠ .mul → m ≠ .mulll → m ≠ .pow5 → wr.v = none
  compare : m ≠ .cmp → wr.eq = none ∧ wr.lt = none
  fh : m ≠ .lookup → m ≠ .fprobe → wr.fh = none
  hit : m ≠ .lookup → wr.hit = none
  precise : wr.error = true → wr = { error := true }

theorem allowedFor_error (m : Mnemonic) : StatusWrite.AllowedFor { error := true } m := by constructor <;> simp

theorem allowedFor_noFlag (m : Mnemonic) (built : Option Bool) : StatusWrite.AllowedFor { built := built } m := by
  constructor <;> simp

theorem allowedFor_c (b : Bool) : StatusWrite.AllowedFor { c := some b } .add := by constructor <;> simp

theorem allowedFor_v {m : Mnemonic} (hm : m = .mul ∨ m = .mulll ∨ m = .pow5) (b : Bool) :
    StatusWrite.AllowedFor { v := some b } m := by
  constructor <;> simp; tauto

theorem allowedFor_compare (e l : Bool) : StatusWrite.AllowedFor { eq := some e, lt := some l } .cmp := by
  constructor <;> simp

theorem allowedFor_fh (b : Bool) : StatusWrite.AllowedFor { fh := some b } .fprobe := by constructor <;> simp

theorem allowedFor_fh_hit (f h : Bool) : StatusWrite.AllowedFor { fh := some f, hit := some h } .lookup := by
  constructor <;> simp

/-! ### What a command does to STATUS, and to the rest -/

/-- The command `i` leaves `s` as `t`; and from any STATUS with the same BUILT it makes the write `wr` there, and
otherwise leaves the same state. -/
structure WritesStatus (i : Instr) (wr : StatusWrite) (s t : State) : Prop where
  run : exec i s = .next t
  allowed : wr.AllowedFor i.mnemonic
  uniform : ∀ st : Status, st.built = s.status.built →
    exec i { s with status := st } = .next { t with status := wr.apply st }

theorem execBuild_writesStatus (s : State) : ∃ wr t, WritesStatus .build wr s t := by
  cases hc : buildCheck s.params.nmax s.n.toNat s.config.width64 with
  | some cause =>
    exact ⟨{ error := true }, s.raiseError cause, by simp only [exec, execBuild, hc], allowedFor_error _,
      fun st _ => by simp only [exec, execBuild, hc]; rfl⟩
  | none =>
    exact ⟨{ built := some true }, _, by simp only [exec, execBuild, hc]; rfl, allowedFor_noFlag _ _,
      fun st _ => by simp only [exec, execBuild, hc]; rfl⟩

/-- The four commands that check BUILT end in NOT_BUILT when it is 0 (60_exceptions.md R202). -/
theorem exec_notBuilt {i : Instr} {s : State} (hc : checksBuilt i = true) (hb : s.status.built = false) :
    exec i s = .next (s.raiseError .notBuilt) := by
  cases i with
  | ldp | lookup | fprobe | setcur => exact if_pos hb
  | _ => cases hc

theorem notBuilt_writesStatus {i : Instr} {s : State} (hc : checksBuilt i = true) (hb : s.status.built = false) :
    WritesStatus i { error := true } s (s.raiseError .notBuilt) :=
  ⟨exec_notBuilt hc hb, allowedFor_error _, fun _ h => exec_notBuilt hc (h.trans hb)⟩

theorem execLdp_writesStatus (rd rs1 : Reg) {s : State} (hb : s.status.built ≠ false) :
    ∃ wr t, WritesStatus (.ldp rd rs1) wr s t := by
  by_cases hn : s.n.toNat ≤ (s.x rs1).toNat
  · exact ⟨{ error := true }, _, (if_neg hb).trans (if_pos hn), allowedFor_error _,
      fun _ h => (if_neg (h ▸ hb)).trans (if_pos hn)⟩
  · exact ⟨{}, _, (if_neg hb).trans (if_neg hn), allowedFor_noFlag _ _,
      fun _ h => (if_neg (h ▸ hb)).trans (if_neg hn)⟩

theorem execLookup_writesStatus (rd rs1 : Reg) {s : State} (hb : s.status.built ≠ false) :
    ∃ wr t, WritesStatus (.lookup rd rs1) wr s t := by
  by_cases hp : s.probe (s.x rs1) = false
  · exact ⟨{ fh := some false, hit := some false }, _, (if_neg hb).trans (if_pos hp), allowedFor_fh_hit _ _,
      fun _ h => (if_neg (h ▸ hb)).trans (if_pos hp)⟩
  · have hrun : ∀ st : Status, st.built = s.status.built → exec (.lookup rd rs1) { s with status := st } =
        .next (lookupConfirmed rd ((State.noteRead { s with status := st } rs1).updCounters Counters.countLookup)
          (confirm s (s.x rs1))).succeed :=
      fun _ h => (if_neg (h ▸ hb)).trans (if_neg hp)
    generalize confirm s (s.x rs1) = answer at hrun
    obtain ⟨_ | j, c⟩ := answer
    · exact ⟨{ fh := some true, hit := some false }, _, hrun s.status rfl, allowedFor_fh_hit _ _, hrun⟩
    · exact ⟨{ fh := some true, hit := some true }, _, hrun s.status rfl, allowedFor_fh_hit _ _, hrun⟩

theorem execFprobe_writesStatus (rs1 : Reg) {s : State} (hb : s.status.built ≠ false) :
    ∃ wr t, WritesStatus (.fprobe rs1) wr s t :=
  ⟨{ fh := some (s.probe (s.x rs1)) }, _, if_neg hb, allowedFor_fh _, fun _ h => if_neg (h ▸ hb)⟩

theorem execSetcur_writesStatus (rs1 : Reg) {s : State} (hb : s.status.built ≠ false) :
    ∃ wr t, WritesStatus (.setcur rs1) wr s t := by
  by_cases hn : s.n.toNat < (s.x rs1).toNat
  · exact ⟨{ error := true }, _, (if_neg hb).trans (if_pos hn), allowedFor_error _,
      fun _ h => (if_neg (h ▸ hb)).trans (if_pos hn)⟩
  · exact ⟨{}, _, (if_neg hb).trans (if_neg hn), allowedFor_noFlag _ _,
      fun _ h => (if_neg (h ▸ hb)).trans (if_neg hn)⟩

/-- Of STATUS a command reads BUILT alone, and it makes there one write allowed to it. -/
theorem exec_writesStatus (i : Instr) (s : State) : ∃ wr t, WritesStatus i wr s t := by
  by_cases hnb : checksBuilt i = true ∧ s.status.built = false
  · exact ⟨_, _, notBuilt_writesStatus hnb.1 hnb.2⟩
  · have hb : checksBuilt i = true → s.status.built ≠ false := fun hc h => hnb ⟨hc, h⟩
    cases i with
    | ldp rd rs1 => exact execLdp_writesStatus rd rs1 (hb rfl)
    | lookup rd rs1 => exact execLookup_writesStatus rd rs1 (hb rfl)
    | fprobe rs1 => exact execFprobe_writesStatus rs1 (hb rfl)
    | setcur rs1 => exact execSetcur_writesStatus rs1 (hb rfl)
    | build => exact execBuild_writesStatus s
    | add rd rs1 rs2 =>
      exact ⟨{ c := some (addCarry s.config.width64 (s.x rs1) (s.x rs2)) }, _, rfl, allowedFor_c _, fun _ _ => rfl⟩
    | mul rd rs1 rs2 =>
      exact ⟨{ v := some (mulOverflow s.config.width64 (s.x rs1) (s.x rs2)) }, _, rfl, allowedFor_v (.inl rfl) _,
        fun _ _ => rfl⟩
    | mulll rd rs1 rs2 => exact ⟨{ v := some false }, _, rfl, allowedFor_v (.inr (.inl rfl)) _, fun _ _ => rfl⟩
    | pow5 rd rs1 =>
      exact ⟨{ v := some (powOverflow s.config.width64 (s.x rs1)) }, _, rfl, allowedFor_v (.inr (.inr rfl)) _,
        fun _ _ => rfl⟩
    | cmp rs1 rs2 =>
      exact ⟨{ eq := some (cmpEq (s.x rs1) (s.x rs2)), lt := some (cmpLt (s.x rs1) (s.x rs2)) }, _, rfl,
        allowedFor_compare _ _, fun _ _ => rfl⟩
    | _ => exact ⟨{}, _, rfl, allowedFor_noFlag _ _, fun _ _ => rfl⟩

theorem WritesStatus.status_eq {i : Instr} {wr : StatusWrite} {s t : State} (h : WritesStatus i wr s t) :
    t.status = wr.apply s.status :=
  congrArg State.status (Host.Outcome.next.inj (h.run.symm.trans (h.uniform s.status rfl)))

/-! ### The obligation -/

/-- A write replaces a flag, by the same value from either state, or leaves it as it was in each. -/
theorem getD_agree_or_kept (o : Option Bool) (a b : Bool) :
    o.getD b = o.getD a ∨ (o.getD b = b ∧ o.getD a = a) := by
  cases o with
  | none => exact .inr ⟨rfl, rfl⟩
  | some _ => exact .inl rfl

/-- R28, the writers of each flag: none without its command, and none with an error. -/
theorem exec_flagWriters {i : Instr} {s t : State} (h : exec i s = .next t) :
    (i.mnemonic ≠ .add → t.status.c = s.status.c) ∧
    (i.mnemonic ≠ .mul → i.mnemonic ≠ .mulll → i.mnemonic ≠ .pow5 → t.status.v = s.status.v) ∧
    (i.mnemonic ≠ .cmp → t.status.eq = s.status.eq ∧ t.status.lt = s.status.lt) ∧
    (i.mnemonic ≠ .lookup → i.mnemonic ≠ .fprobe → t.status.fh = s.status.fh) ∧
    (i.mnemonic ≠ .lookup → t.status.hit = s.status.hit) ∧
    (s.status.err = false → t.status.err = true →
      t.status = { s.status with err := true, done := true }) := by
  obtain ⟨wr, t, hw⟩ := exec_writesStatus i s
  cases Host.Outcome.next.inj (hw.run.symm.trans h)
  obtain ⟨hc, hv, hcmp, hfh, hhit, hprecise⟩ := hw.allowed
  rw [hw.status_eq]
  refine ⟨fun n => ?_, fun n1 n2 n3 => ?_, fun n => ?_, fun n1 n2 => ?_, fun n => ?_, fun he ht => ?_⟩
  · simp [StatusWrite.apply, hc n]
  · simp [StatusWrite.apply, hv n1 n2 n3]
  · simp [StatusWrite.apply, hcmp n]
  · simp [StatusWrite.apply, hfh n1 n2]
  · simp [StatusWrite.apply, hhit n]
  · have herr : wr.error = true := by simpa [StatusWrite.apply, he] using ht
    rw [hprecise herr]
    rfl

/-- Settles O40: every command makes one write of STATUS that does not depend on the flags. -/
theorem flagsAreWrittenByTheirCommandsAndReadByNone : Obligations.FlagsAreWrittenByTheirCommandsAndReadByNone := by
  refine ⟨fun i s t h => exec_flagWriters h, fun i s c v eq lt fh hit => ?_⟩
  obtain ⟨wr, t, hw⟩ := exec_writesStatus i s
  refine ⟨t, _, hw.run, hw.uniform _ rfl, rfl, ?_⟩
  rw [hw.status_eq]
  exact ⟨rfl, getD_agree_or_kept wr.c _ _, getD_agree_or_kept wr.v _ _, getD_agree_or_kept wr.eq _ _,
    getD_agree_or_kept wr.lt _ _, getD_agree_or_kept wr.fh _ _, getD_agree_or_kept wr.hit _ _⟩

end Sys2Proof.Machine
end

section
/-! PROOFS. The host port (20_memory.md R54 to R61, R64). The one idea: an access at an offset of the window is
`hostWriteThrough` or the delivery of `hostValue` at the register `hostRegAt` names there, unless BUSY stops it, which it
does only for the registers of R60. -/

namespace Sys2Proof.Machine

/-! ### An access that BUSY does not stop, and one that it does -/

theorem State.busy_of_idle {s : State} (h : s.pending = none) : s.busy = false := by simp [State.busy, h]

theorem State.busy_of_pending {s : State} (h : s.pending ≠ none) : s.busy = true := by
  simpa [State.busy, Option.isSome_iff_ne_none] using h

/-- R55 to R58: an idle block takes the host's write. -/
theorem step_hostWrites_idle {s : State} {off : Nat} (hp : s.pending = none) (v : Half)
    (h1 : off < 4096 := by decide) (h2 : off % 8 = 0 := by decide) :
    step (s.hostWrites off v) = .next (hostWriteThrough (hostRegAt off) v s) := by
  rw [step_hostWrites h1 h2, hostWrite, State.busy_of_idle hp]
  rfl

/-- R60: a write that is not among the dropped ones is taken at any time. -/
theorem step_hostWrites_anyTime {off : Nat} (s : State) (v : Half) (hd : droppedWhileBusy (hostRegAt off) = false)
    (h1 : off < 4096 := by decide) (h2 : off % 8 = 0 := by decide) :
    step (s.hostWrites off v) = .next (hostWriteThrough (hostRegAt off) v s) := by
  rw [step_hostWrites h1 h2, hostWrite, hd, Bool.and_false]
  rfl

/-- R60: while BUSY, a write among the dropped ones only sets OVR. -/
theorem step_hostWrites_dropped {s : State} {off : Nat} (hp : s.pending ≠ none) (v : Half)
    (hd : droppedWhileBusy (hostRegAt off) = true)
    (h1 : off < 4096 := by decide) (h2 : off % 8 = 0 := by decide) :
    step (s.hostWrites off v) = .next s.drop := by
  rw [step_hostWrites h1 h2, hostWrite, hd, State.busy_of_pending hp]
  rfl

/-- R59: an idle block delivers the register's value to the host's read. -/
theorem step_hostReads_idle {s : State} {off : Nat} (hp : s.pending = none)
    (h1 : off < 4096 := by decide) (h2 : off % 8 = 0 := by decide) :
    step (s.hostReads off) =
      .next ((s.noteHostRead (hostRegAt off)).deliver (s.hostValue (hostRegAt off))) := by
  rw [step_hostReads h1 h2, hostRead, State.busy_of_idle hp]
  rfl

/-! ### Register images (10_state.md R24, R29, R37) -/

theorem getLsbD_bitAt {j : Nat} (hj : j < 64) (b : Bool) (k : Nat) :
    (bitAt j b).getLsbD k = (b && decide (j = k)) := by
  cases b <;> simp [bitAt, hj]

/-- R24: no field of STATUS is at bits 5 to 7, nor from 14 on. -/
theorem getLsbD_statusWord_reserved (s : State) {k : Nat} (hk : (5 ≤ k ∧ k ≤ 7) ∨ 14 ≤ k) :
    s.statusWord.getLsbD k = false := by
  have hfield : ∀ j, j < 5 ∨ (8 ≤ j ∧ j < 14) → ∀ b, (bitAt j b).getLsbD k = false := fun j hj b => by
    rw [getLsbD_bitAt (by omega), decide_eq_false (by omega), Bool.and_false]
  simp [State.statusWord, Status.word, hfield]

/-- The bits 0 and 1 of a word, each put back in its place, are the word with bits [63:2] cleared. -/
theorem bitAt_zero_or_bitAt_one (v : Half) :
    bitAt 0 (v.getLsbD 0) ||| bitAt 1 (v.getLsbD 1) = v &&& 0x3#64 := by
  apply BitVec.eq_of_getLsbD_eq
  intro k hk
  rw [BitVec.getLsbD_or, BitVec.getLsbD_and, getLsbD_bitAt (by decide), getLsbD_bitAt (by decide)]
  have hmask : (0x3#64).getLsbD k = (decide (0 = k) || decide (1 = k)) := by
    interval_cases k <;> rfl
  rw [hmask]
  by_cases h0 : 0 = k
  · subst h0; simp
  · by_cases h1 : 1 = k
    · subst h1; simp
    · simp [h0, h1]

/-- R29, R57: what CONFIG reads after a write of `v`. -/
theorem ConfigReg.word_ofWord (v : Half) : (ConfigReg.ofWord v).word = v &&& 0x3#64 := by
  have hscan : (ConfigReg.ofWord v).strategy = .scan ↔ v.getLsbD 1 = true := by simp [ConfigReg.ofWord]
  simp only [ConfigReg.word, hscan, Bool.decide_eq_true]
  exact bitAt_zero_or_bitAt_one v

/-- R37, R58: what IRQEN reads after a write of `v`. -/
theorem IrqEnable.word_ofWord (v : Half) : (IrqEnable.ofWord v).word = v &&& 0x3#64 := bitAt_zero_or_bitAt_one v

/-! ### Writes of CMD and STATUS (R55, R56, R64) -/

theorem step_writeCmd_accepted {s : State} (hp : s.pending = none) (he : s.status.err = false) (v : Half) :
    step (s.hostWrites 0x000 v) = .next (s.accept (offeredWord v)) := by
  rw [step_hostWrites_idle hp v]
  exact congrArg _ (if_neg (by simp [he]))

theorem step_writeCmd_dropped {s : State} (h : s.pending ≠ none ∨ s.status.err = true) (v : Half) :
    step (s.hostWrites 0x000 v) = .next s.drop := by
  by_cases hp : s.pending = none
  · rw [step_hostWrites_idle hp v]
    exact congrArg _ (if_pos (h.resolve_left (not_not_intro hp)))
  · exact step_hostWrites_dropped hp v rfl

theorem step_writeStatus (s : State) (v : Half) :
    step (s.hostWrites 0x008 v) = .next (s.updStatus (·.writeOneToClear v)) :=
  step_hostWrites_anyTime s v rfl

/-- R56: a write of STATUS with 0 in bits 2 to 4 clears nothing. -/
theorem Status.writeOneToClear_eq_self {v : Half} (hv : v &&& 0x1C#64 = 0) (st : Status) :
    st.writeOneToClear v = st := by
  have hbit : ∀ k, (0x1C#64).getLsbD k = true → v.getLsbD k = false := fun k hk => by
    simpa [BitVec.getLsbD_and, hk] using congrArg (BitVec.getLsbD · k) hv
  simp only [Status.writeOneToClear, hbit 2 rfl, hbit 3 rfl, hbit 4 rfl, Bool.not_false, Bool.and_true]

/-! ### W halves (R22, R58, R59) -/

theorem State.loHalf_of_written {s : State} {r : Reg} (h : s.w[r.val].loWritten = true) :
    s.loHalf r = lo s.w[r.val].val := if_pos h

theorem State.hiHalf_of_written {s : State} {r : Reg} (h : s.w[r.val].hiWritten = true) :
    s.hiHalf r = hi s.w[r.val].val := if_pos h

@[simp] theorem State.loHalf_setLo (s : State) (r : Reg) (v : Half) : (s.setLo r v).loHalf r = v := by
  simp [State.loHalf]

@[simp] theorem State.hiHalf_setLo (s : State) (r : Reg) (v : Half) : (s.setLo r v).hiHalf r = s.hiHalf r := by
  simp [State.hiHalf]

@[simp] theorem State.hiHalf_setHi (s : State) (r : Reg) (v : Half) : (s.setHi r v).hiHalf r = v := by
  simp [State.hiHalf]

@[simp] theorem State.loHalf_setHi (s : State) (r : Reg) (v : Half) : (s.setHi r v).loHalf r = s.loHalf r := by
  simp [State.loHalf]

theorem regsKeptBut_set {s t : State} {r : Reg} {x : WReg} (h : t.w = s.w.set r.val x) : RegsKeptBut r s t := by
  intro q hq
  have hne : r.val ≠ q.val := fun e => hq (Fin.ext e.symm)
  simp [h, hne]

/-- R22: a read of a half marked written records nothing. -/
@[simp] theorem State.noteHalf_true (s : State) : s.noteHalf true = s := by
  simp [State.noteHalf]

/-- R59: what the host's read of a W half leaves, whether or not it records UNWRITTEN_READ. -/
theorem blockKept_noteHalf_deliver (s : State) (m : Bool) (v : Half) : BlockKept s ((s.noteHalf m).deliver v) :=
  ⟨rfl, rfl, rfl, rfl, rfl, ⟨fun _ => rfl, fun _ => rfl⟩, ⟨rfl, rfl⟩, rfl, rfl, rfl, rfl, rfl, rfl⟩

theorem wLo_offset_inWindow (r : Reg) : 0x080 + 16 * r.val < 4096 ∧ (0x080 + 16 * r.val) % 8 = 0 := by omega

theorem wHi_offset_inWindow (r : Reg) : 0x088 + 16 * r.val < 4096 ∧ (0x088 + 16 * r.val) % 8 = 0 := by omega

theorem step_writeLo {s : State} (hp : s.pending = none) (r : Reg) (v : Half) :
    step (s.hostWrites (0x080 + 16 * r.val) v) = .next (s.setLo r v) := by
  obtain ⟨h1, h2⟩ := wLo_offset_inWindow r
  rw [step_hostWrites_idle hp v h1 h2, hostRegAt_wLo]
  rfl

theorem step_writeHi {s : State} (hp : s.pending = none) (r : Reg) (v : Half) :
    step (s.hostWrites (0x088 + 16 * r.val) v) = .next (s.setHi r v) := by
  obtain ⟨h1, h2⟩ := wHi_offset_inWindow r
  rw [step_hostWrites_idle hp v h1 h2, hostRegAt_wHi]
  rfl

theorem step_readLo {s : State} (hp : s.pending = none) (r : Reg) :
    step (s.hostReads (0x080 + 16 * r.val)) =
      .next ((s.noteHalf s.w[r.val].loWritten).deliver (s.loHalf r)) := by
  obtain ⟨h1, h2⟩ := wLo_offset_inWindow r
  rw [step_hostReads_idle hp h1 h2, hostRegAt_wLo]
  rfl

theorem step_readHi {s : State} (hp : s.pending = none) (r : Reg) :
    step (s.hostReads (0x088 + 16 * r.val)) =
      .next ((s.noteHalf s.w[r.val].hiWritten).deliver (s.hiHalf r)) := by
  obtain ⟨h1, h2⟩ := wHi_offset_inWindow r
  rw [step_hostReads_idle hp h1 h2, hostRegAt_wHi]
  rfl

/-! ### Reserved offsets (R61) -/

theorem step_readReserved (s : State) {off : Nat} (hal : off % 8 = 0)
    (hoff : 0x060 ≤ off ∧ off < 0x080 ∨ 0x100 ≤ off ∧ off < 0x1000) :
    step (s.hostReads off) = .next (s.deliver 0) := by
  rw [step_hostReads (by omega) hal, hostRegAt_reserved (by omega), hostRead, drawnWhileBusy, Bool.and_false]
  rfl

theorem step_writeReserved (s : State) (v : Half) {off : Nat} (hal : off % 8 = 0)
    (hoff : 0x060 ≤ off ∧ off < 0x080 ∨ 0x100 ≤ off ∧ off < 0x1000) :
    step (s.hostWrites off v) = .next s := by
  have hr : hostRegAt off = .reserved := hostRegAt_reserved (by omega)
  rw [step_hostWrites_anyTime s v (by rw [hr]; rfl) (by omega) hal, hr]
  rfl

/-! ### The obligations -/

/-- Settles O48: a reserved offset or a read-only register is written through at any time, and nothing is written; the
reserved bits are those no field of the register image holds. -/
theorem reservedOffsetsAndBits : Obligations.ReservedOffsetsAndBits := by
  refine ⟨fun s off v hal hoff => ⟨step_readReserved s hal hoff, step_writeReserved s v hal hoff⟩,
    fun s v hp => ⟨s.setConfig v, step_hostWrites_idle hp v, ConfigReg.word_ofWord v, rfl⟩,
    fun s v => ⟨s.setIrqen v, step_hostWrites_anyTime s v rfl, IrqEnable.word_ofWord v, rfl⟩,
    fun s v hv => ?_, fun s k hk => getLsbD_statusWord_reserved s hk,
    fun s v => ⟨step_hostWrites_anyTime s v rfl, step_hostWrites_anyTime s v rfl, step_hostWrites_anyTime s v rfl⟩⟩
  rw [step_writeStatus, State.updStatus, Status.writeOneToClear_eq_self hv]

/-- Settles O42, by whether the block is idle without an error. -/
theorem cmdWriteIsAcceptedOrDropped : Obligations.CmdWriteIsAcceptedOrDropped :=
  fun _ v => ⟨fun hp he => step_writeCmd_accepted hp he v, fun h => step_writeCmd_dropped h v⟩

/-- Settles O43: the write leaves PENDING, so once it has cleared ERR an idle block accepts the next CMD write. -/
theorem statusWriteClearsWhereOne : Obligations.StatusWriteClearsWhereOne := by
  refine fun s v => ⟨step_writeStatus s v, fun hp hv next => ?_⟩
  have hcleared : (s.updStatus (·.writeOneToClear v)).status.err = false := by
    simp only [State.updStatus_status, Status.writeOneToClear, hv, Bool.not_true, Bool.and_false]
  have hidle : (s.updStatus (·.writeOneToClear v)).pending = none := hp
  exact ⟨_, _, step_writeStatus s v, step_writeCmd_accepted hidle hcleared next, rfl⟩

/-- Settles O44: both writes are taken while idle, and both unbuild. -/
theorem configAndNWritesUnbuild : Obligations.ConfigAndNWritesUnbuild :=
  fun _ v hp => ⟨step_hostWrites_idle hp v, step_hostWrites_idle hp v⟩

/-- Settles O45: a write of one half keeps the other, the counters are taken while idle, and IRQEN at any time. -/
theorem wHalfCounterAndIrqenWrites : Obligations.WHalfCounterAndIrqenWrites := by
  refine fun s v => ⟨fun hp r => ⟨?_, ?_⟩, fun hp => ⟨?_, ?_, ?_, ?_⟩, step_hostWrites_anyTime s v rfl⟩
  · exact ⟨_, step_writeLo hp r v, s.loHalf_setLo r v, s.hiHalf_setLo r v, by simp, by simp,
      regsKeptBut_set (s.setLo_w r v), rfl⟩
  · exact ⟨_, step_writeHi hp r v, s.hiHalf_setHi r v, s.loHalf_setHi r v, by simp, by simp,
      regsKeptBut_set (s.setHi_w r v), rfl⟩
  all_goals exact step_hostWrites_idle hp v

/-- Settles O47: a named register is delivered as it is; a W half is too if it is marked written, and otherwise the read
records UNWRITTEN_READ. -/
theorem idleReadsReturnTheRegister : Obligations.IdleReadsReturnTheRegister := by
  intro s hp
  iterate 12 refine ⟨step_hostReads_idle hp, ?_⟩
  refine fun r => ⟨fun h => ?_, fun h => ?_, fun h => ?_, fun h => ?_⟩
  · rw [step_readLo hp, h, State.noteHalf_true, State.loHalf_of_written h, State.deliver]
  · rw [step_readHi hp, h, State.noteHalf_true, State.hiHalf_of_written h, State.deliver]
  · exact ⟨_, step_readLo hp r, blockKept_noteHalf_deliver _ _ _, by simp [h]⟩
  · exact ⟨_, step_readHi hp r, blockKept_noteHalf_deliver _ _ _, by simp [h]⟩

end Sys2Proof.Machine
end

section
/-! PROOFS. The pseudo-instructions (30_encoding.md R93). The one idea: an operand written from a register is read back as
that register, so a line whose operands are all registers makes the command its mnemonic names. -/

namespace Sys2Proof.Machine

/-- R92: the operand `w<number>` of a register is read back as that register. -/
@[simp] theorem SourceOperand.asReg_reg (r : Reg) : SourceOperand.asReg (.reg r.val) = some r := dif_pos r.isLt

theorem oneReg_reg (make : Reg → Instr) (a : Reg) : oneReg make [.reg a.val] = some (make a) := by
  simp [oneReg]

theorem twoRegs_reg (make : Reg → Reg → Instr) (a b : Reg) :
    twoRegs make [.reg a.val, .reg b.val] = some (make a b) := by
  simp [twoRegs]

/-- Settles O8: `clr` and `probe` read one register, `sqr` and `dbl` two, and each makes the command R93 gives it. -/
theorem pseudoInstructionsExpandToOneCommand : Obligations.PseudoInstructionsExpandToOneCommand :=
  fun wd ws => ⟨oneReg_reg _ wd, twoRegs_reg _ wd ws, twoRegs_reg _ wd ws, oneReg_reg _ ws⟩

end Sys2Proof.Machine
end

section
/-! PROOFS. The WideInteger commands (40_wideinteger.md R102 to R112). The one idea: such a command is a register write, or
no register write, between the notes of its reads and its completion, so what it leaves is said once for all of them
(`writesRegister_of_exec`, `wroteNoRegister_succeed`), and an obligation adds what the written value and flag are. -/

namespace Sys2Proof.Machine

/-! ### What a WideInteger command leaves -/

/-- The command `i` leaves `s` as `t`: it completed with `v` in rd and STATUS as `st`, and recorded the reads of its
sources (R22). -/
structure WritesRegister (i : Instr) (rd : Reg) (v : Wide) (st : Status) (s t : State) : Prop where
  run : exec i s = .next t
  wrote : WroteRegister rd v st s t
  record : t.unwrittenRead = s.recordAfterReads (sources i)

theorem State.recordAfterReads_nil (s : State) : s.unwrittenRead = s.recordAfterReads [] := by
  simp [State.recordAfterReads]

theorem State.recordAfterReads_one (s : State) (r : Reg) :
    (s.unwrittenRead || !s.written r) = s.recordAfterReads [r] := by
  simp [State.recordAfterReads]

theorem State.recordAfterReads_two (s : State) (r q : Reg) :
    (s.unwrittenRead || !s.written r || !s.written q) = s.recordAfterReads [r, q] := by
  simp [State.recordAfterReads, Bool.or_assoc]

theorem writesRegister_of_exec {i : Instr} {s : State} {record : Bool} {rd : Reg} {v : Wide} (f : Status → Status)
    (hr : record = s.recordAfterReads (sources i))
    (h : exec i s = .next ((({ s with unwrittenRead := record } : State).setW rd v).updStatus f).succeed) :
    ∃ t, WritesRegister i rd v (f s.status) s t :=
  ⟨_, h, wroteRegister_succeed s record rd v f, hr⟩

/-- R65: a command that notes its reads, writes STATUS but no register, and completes. -/
theorem wroteNoRegister_succeed (s : State) (record : Bool) (f : Status → Status) :
    WroteNoRegister s.cursor (f s.status) s (({ s with unwrittenRead := record } : State).updStatus f).succeed where
  w := rfl
  cursor := rfl
  tables := ⟨fun _ => rfl, fun _ => rfl⟩
  completed := ⟨rfl, rfl, rfl, ⟨rfl, rfl⟩, ⟨rfl, rfl, rfl, rfl, rfl, rfl, rfl, rfl, rfl⟩⟩

theorem execLi_writesRegister (rd : Reg) (imm17 : BitVec 17) (s : State) :
    ∃ t, WritesRegister (.li rd imm17) rd (immediate imm17) s.status s t :=
  writesRegister_of_exec id s.recordAfterReads_nil rfl

theorem execMov_writesRegister (rd rs1 : Reg) (s : State) :
    ∃ t, WritesRegister (.mov rd rs1) rd (s.x rs1) s.status s t :=
  writesRegister_of_exec id (s.recordAfterReads_one rs1) rfl

theorem execAdd_writesRegister (rd rs1 rs2 : Reg) (s : State) :
    ∃ t, WritesRegister (.add rd rs1 rs2) rd (addSum s.config.width64 (s.x rs1) (s.x rs2))
      { s.status with c := addCarry s.config.width64 (s.x rs1) (s.x rs2) } s t :=
  writesRegister_of_exec (·.setC _) (s.recordAfterReads_two rs1 rs2) rfl

theorem execMul_writesRegister (rd rs1 rs2 : Reg) (s : State) :
    ∃ t, WritesRegister (.mul rd rs1 rs2) rd (mulProduct s.config.width64 (s.x rs1) (s.x rs2))
      { s.status with v := mulOverflow s.config.width64 (s.x rs1) (s.x rs2) } s t :=
  writesRegister_of_exec (·.setV _) (s.recordAfterReads_two rs1 rs2) rfl

theorem execMulll_writesRegister (rd rs1 rs2 : Reg) (s : State) :
    ∃ t, WritesRegister (.mulll rd rs1 rs2) rd (mulLow (s.x rs1) (s.x rs2)) { s.status with v := false } s t :=
  writesRegister_of_exec (·.setV _) (s.recordAfterReads_two rs1 rs2) rfl

theorem execPow5_writesRegister (rd rs1 : Reg) (s : State) :
    ∃ t, WritesRegister (.pow5 rd rs1) rd (pow5 s.config.width64 (s.x rs1))
      { s.status with v := powOverflow s.config.width64 (s.x rs1) } s t :=
  writesRegister_of_exec (·.setV _) (s.recordAfterReads_one rs1) rfl

theorem execFold16_writesRegister (rd rs1 : Reg) (s : State) :
    ∃ t, WritesRegister (.fold16 rd rs1) rd (zext128 (fold16 (s.x rs1))) s.status s t :=
  writesRegister_of_exec id (s.recordAfterReads_one rs1) rfl

theorem execFold32_writesRegister (rd rs1 : Reg) (s : State) :
    ∃ t, WritesRegister (.fold32 rd rs1) rd (zext128 (fold32 (s.x rs1))) s.status s t :=
  writesRegister_of_exec id (s.recordAfterReads_one rs1) rfl

theorem execFold64_writesRegister (rd rs1 : Reg) (s : State) :
    ∃ t, WritesRegister (.fold64 rd rs1) rd (zext128 (fold64 (s.x rs1))) s.status s t :=
  writesRegister_of_exec id (s.recordAfterReads_one rs1) rfl

/-- The value of rd read back: what was written may be named by what `t` now holds. -/
theorem Wrote.readBack {rd : Reg} {v : Wide} {c : Half} {k : Counters} {st : Status} {s t : State}
    (h : Wrote rd v c k st s t) : Wrote rd (t.x rd) c k st s t :=
  { h with value := rfl }

/-- The same for a command that writes C: so may the flag. -/
theorem Wrote.c_readBack {rd : Reg} {v : Wide} {c : Half} {k : Counters} {st : Status} {b : Bool} {s t : State}
    (h : Wrote rd v c k { st with c := b } s t) :
    t.x rd = v ∧ t.status.c = b ∧ Wrote rd (t.x rd) c k { st with c := t.status.c } s t := by
  have hc : t.status.c = b := by rw [h.completed.status]
  exact ⟨h.value, hc, hc ▸ h.readBack⟩

/-- The same for a command that writes V. -/
theorem Wrote.v_readBack {rd : Reg} {v : Wide} {c : Half} {k : Counters} {st : Status} {b : Bool} {s t : State}
    (h : Wrote rd v c k { st with v := b } s t) :
    t.x rd = v ∧ t.status.v = b ∧ Wrote rd (t.x rd) c k { st with v := t.status.v } s t := by
  have hv : t.status.v = b := by rw [h.completed.status]
  exact ⟨h.value, hv, hv ▸ h.readBack⟩

/-! ### The operands at each width (R101) -/

@[simp] theorem widthBits_false : widthBits false = 128 := rfl

@[simp] theorem widthBits_true : widthBits true = 64 := rfl

@[simp] theorem opnd_false (v : Wide) : opnd false v = v := rfl

@[simp] theorem opnd_true_toNat (v : Wide) : (opnd true v).toNat = (lo v).toNat := zext128_toNat (lo v) (by decide)

/-- R105: at w = 128 the high half of the sum is that of the pseudocode's `s1`. -/
theorem hi_addSum_toNat (a b : Wide) : (hi (addSum false a b)).toNat = addHigh a b % 2 ^ 64 :=
  (congrArg BitVec.toNat (hi_pair _ _)).trans (BitVec.toNat_ofNat _ _)

/-- R105: and the low half that of `s0`. -/
theorem lo_addSum_toNat (a b : Wide) : (lo (addSum false a b)).toNat = addLow a b % 2 ^ 64 :=
  (congrArg BitVec.toNat (lo_pair _ _)).trans (BitVec.toNat_ofNat _ _)

/-- R108: V says that the exact fifth power reaches 2^w. -/
theorem powOverflow_iff (width64 : Bool) (v : Wide) :
    powOverflow width64 v = true ↔ 2 ^ widthBits width64 ≤ (opnd width64 v).toNat ^ 5 := decide_eq_true_iff

/-! ### Comparison (R109) -/

/-- R109: equal halves are equal values. -/
theorem cmpEq_iff (a b : Wide) : cmpEq a b = true ↔ a = b := by
  rw [cmpEq, Bool.and_eq_true, decide_eq_true_eq, decide_eq_true_eq]
  refine ⟨fun ⟨hhi, hlo⟩ => ?_, fun h => h ▸ ⟨rfl, rfl⟩⟩
  rw [← pair_hi_lo a, ← pair_hi_lo b, hhi, hlo]

theorem cmpLt_iff (a b : Wide) : cmpLt a b = true ↔ a.toNat < b.toNat := decide_eq_true_iff

/-! ### The bits of the folds (R110 to R112) -/

theorem getLsbD_zext128 {n : Nat} (v : BitVec n) (hn : n ≤ 128) (k : Nat) : (zext128 v).getLsbD k = v.getLsbD k := by
  by_cases hk : k < 128
  · simp [zext128, hk]
  · rw [BitVec.getLsbD_of_ge _ k (by omega), BitVec.getLsbD_of_ge v k (by omega)]

theorem getLsbD_fold64 (v : Wide) {k : Nat} (hk : k < 64) :
    (fold64 v).getLsbD k = (v.getLsbD (64 + k) ^^ v.getLsbD k) := by
  simp [fold64, hi, lo, hk]

theorem getLsbD_fold32 (v : Wide) {k : Nat} (hk : k < 32) :
    (fold32 v).getLsbD k =
      (v.getLsbD (96 + k) ^^ v.getLsbD (64 + k) ^^ v.getLsbD (32 + k) ^^ v.getLsbD k) := by
  simp [fold32, hk]

theorem getLsbD_fold16 (v : Wide) {k : Nat} (hk : k < 16) :
    (fold16 v).getLsbD k =
      (v.getLsbD k ^^ v.getLsbD (16 + k) ^^ v.getLsbD (32 + k) ^^ v.getLsbD (48 + k) ^^
        v.getLsbD (64 + k) ^^ v.getLsbD (80 + k) ^^ v.getLsbD (96 + k) ^^ v.getLsbD (112 + k)) := by
  simp [fold16_eq, hk]

/-- A fold command leaves in rd the fold's bits, and 0 above them. -/
theorem fold_bits {i : Instr} {rd : Reg} {n : Nat} {u : BitVec n} {s : State} {bit : Nat → Bool}
    (h : ∃ t, WritesRegister i rd (zext128 u) s.status s t) (hn : n ≤ 128) (hu : ∀ k, k < n → u.getLsbD k = bit k) :
    ∃ t, exec i s = .next t ∧ WroteRegister rd (t.x rd) s.status s t ∧
      t.unwrittenRead = s.recordAfterReads (sources i) ∧ (∀ k, k < n → (t.x rd).getLsbD k = bit k) ∧
      (∀ k, n ≤ k → (t.x rd).getLsbD k = false) := by
  obtain ⟨t, hrun, hwrote, hrecord⟩ := h
  have hbits (k : Nat) : (t.x rd).getLsbD k = u.getLsbD k := by rw [hwrote.value, getLsbD_zext128 u hn]
  exact ⟨t, hrun, hwrote.readBack, hrecord, fun k hk => (hbits k).trans (hu k hk),
    fun k hk => (hbits k).trans (BitVec.getLsbD_of_ge u k hk)⟩

/-! ### The obligations -/

/-- Settles O20: the chain of multiplications is the fifth power modulo 2^w (`pow5_toNat`), at each width. -/
theorem pow5IsTheFifthPowerModuloTwoToTheW : Obligations.Pow5IsTheFifthPowerModuloTwoToTheW := by
  intro rd rs1 s
  obtain ⟨t, hrun, hwrote, hrecord⟩ := execPow5_writesRegister rd rs1 s
  obtain ⟨hx, hv, hback⟩ := hwrote.v_readBack
  refine ⟨t, hrun, hback, hrecord, fun hw => ?_, fun hw => ?_⟩
  · rw [hx, hv, pow5_toNat, powOverflow_iff, hw]
    exact ⟨rfl, .rfl⟩
  · rw [hx, hv, pow5_toNat, powOverflow_iff, hw, opnd_true_toNat]
    exact ⟨rfl, .rfl⟩

/-- Settles O13: NOP reads nothing, and writes neither a register nor a flag. -/
theorem nopOnlyCompletes : Obligations.NopOnlyCompletes :=
  fun s => ⟨_, rfl, wroteNoRegister_succeed s s.unwrittenRead id, rfl⟩

/-- Settles O14: the immediate zero-extended is the immediate as a 128-bit number. -/
theorem liLoadsTheZeroExtendedImmediate : Obligations.LiLoadsTheZeroExtendedImmediate := by
  intro rd imm17 s
  obtain ⟨t, hrun, hwrote, hrecord⟩ := execLi_writesRegister rd imm17 s
  rw [BitVec.ofNat_toNat]
  exact ⟨t, hrun, hwrote, hrecord.trans s.recordAfterReads_nil.symm⟩

/-- Settles O15: MOV writes `x[rs1]` itself, not its width-w operand. -/
theorem movCopiesAll128Bits : Obligations.MovCopiesAll128Bits := by
  intro rd rs1 s
  obtain ⟨t, hrun, hwrote, hrecord⟩ := execMov_writesRegister rd rs1 s
  exact ⟨t, hrun, hwrote, hrecord⟩

/-- Settles O16: at w = 128 the two halves are those of the pseudocode; at w = 64 the sum is that of the low halves. -/
theorem addCarriesFromTheLowHalfIntoTheHighHalf : Obligations.AddCarriesFromTheLowHalfIntoTheHighHalf := by
  intro rd rs1 rs2 s
  obtain ⟨t, hrun, hwrote, hrecord⟩ := execAdd_writesRegister rd rs1 rs2 s
  obtain ⟨hx, hc, hback⟩ := hwrote.c_readBack
  refine ⟨t, hrun, hback, hrecord, fun hw => ?_, fun hw => ?_⟩
  · rw [hx, hc, hw]
    exact ⟨_, _, _, rfl, rfl, rfl, hi_addSum_toNat _ _, lo_addSum_toNat _ _, decide_eq_true_iff⟩
  · rw [hx, hc, addSum_toNat, addCarry_iff, hw, opnd_true_toNat, opnd_true_toNat]
    exact ⟨rfl, .rfl⟩

/-- Settles O17: at w = 128 the product is that of the pseudocode; at w = 64 it is that of the low halves. -/
theorem mulSumsThreePartialProducts : Obligations.MulSumsThreePartialProducts := by
  intro rd rs1 rs2 s
  obtain ⟨t, hrun, hwrote, hrecord⟩ := execMul_writesRegister rd rs1 rs2 s
  obtain ⟨hx, hv, hback⟩ := hwrote.v_readBack
  refine ⟨t, hrun, hback, hrecord, fun hw => ?_, fun hw => ?_⟩
  · rw [hx, hv, mulOverflow_iff, hw]
    exact ⟨_, _, _, rfl, rfl, rfl, BitVec.toNat_ofNat _ _, .rfl⟩
  · rw [hx, hv, mulProduct_toNat, mulOverflow_iff, hw, opnd_true_toNat, opnd_true_toNat]
    exact ⟨rfl, .rfl⟩

/-- Settles O19: a product of two halves fits in 128 bits (`mulLow_toNat`). -/
theorem mulllIsExactOnTheLowHalves : Obligations.MulllIsExactOnTheLowHalves := by
  intro rd rs1 rs2 s
  obtain ⟨t, hrun, hwrote, hrecord⟩ := execMulll_writesRegister rd rs1 rs2 s
  exact ⟨t, hrun, hwrote.readBack, by rw [hwrote.value, mulLow_toNat], hrecord⟩

/-- Settles O22: two values are equal when both halves are (`cmpEq_iff`), and LT compares the whole values. -/
theorem cmpComparesAll128Bits : Obligations.CmpComparesAll128Bits :=
  fun rs1 rs2 s => ⟨_, rfl, wroteNoRegister_succeed s _ (·.setCompare (cmpEq _ _) (cmpLt _ _)), cmpEq_iff _ _,
    cmpLt_iff _ _, s.recordAfterReads_two rs1 rs2⟩

/-- Settles O23: bit k of the fold comes from bit k of each half. -/
theorem fold64XorsTheTwoHalves : Obligations.Fold64XorsTheTwoHalves :=
  fun rd rs1 s => fold_bits (execFold64_writesRegister rd rs1 s) (by decide) fun _ hk => getLsbD_fold64 _ hk

/-- Settles O24: bit k of the fold comes from bit k of each 32-bit word. -/
theorem fold32XorsTheFourWords : Obligations.Fold32XorsTheFourWords :=
  fun rd rs1 s => fold_bits (execFold32_writesRegister rd rs1 s) (by decide) fun _ hk => getLsbD_fold32 _ hk

/-- Settles O25: bit k of the fold comes from bit k of each 16-bit chunk. -/
theorem fold16XorsTheEightChunks : Obligations.Fold16XorsTheEightChunks :=
  fun rd rs1 s => fold_bits (execFold16_writesRegister rd rs1 s) (by decide) fun _ hk => getLsbD_fold16 _ hk

end Sys2Proof.Machine
end

section
/-! PROOFS. The PowerTable commands BUILD and LDP (41_powertable.md R141, R142). The one idea: a command that fails a check
notes its reads and raises the check's cause, so what it leaves is said once (`failsWith_of_exec`), and what is left is
which check answers. -/

namespace Sys2Proof.Machine

/-! ### A command that fails a check -/

/-- R203: a command that notes its reads and raises `cause` ends in that error, for the word that was pending. -/
theorem raiseError_afterReads_endedInError {s : State} {word : CommandWord} (hp : s.pending = some word)
    (record : Bool) (cause : Cause) :
    EndedInError cause word s (({ s with unwrittenRead := record } : State).raiseError cause) where
  idle := rfl
  status := rfl
  ecause := rfl
  einfo := congrArg zext64
    (State.word_of_pending (s := ({ s with unwrittenRead := record } : State)) hp)
  w := rfl
  cursor := rfl
  tables := ⟨fun _ => rfl, fun _ => rfl⟩
  counters := rfl
  port := ⟨rfl, rfl, rfl, rfl, rfl, rfl, rfl, rfl, rfl⟩

theorem failsWith_of_exec {i : Instr} {s : State} {word : CommandWord} {record : Bool} {cause : Cause}
    (hp : s.pending = some word)
    (h : exec i s = .next (({ s with unwrittenRead := record } : State).raiseError cause)) :
    ∃ t, exec i s = .next t ∧ EndedInError cause word s t ∧ t.unwrittenRead = record :=
  ⟨_, h, raiseError_afterReads_endedInError hp record cause, rfl⟩

/-! ### BUILD's checks (R141) -/

theorem buildCheck_small {nmax n : Nat} {width64 : Bool} (h : n ≤ 1) :
    buildCheck nmax n width64 = some .cfgNSmall := if_pos h

theorem buildCheck_large {nmax n : Nat} {width64 : Bool} (h2 : 2 ≤ n) (h : nmax < n) :
    buildCheck nmax n width64 = some .cfgNLarge :=
  (if_neg (Nat.not_le.mpr h2)).trans (if_pos h)

theorem buildCheck_width {nmax n : Nat} (h2 : 2 ≤ n) (hn : n ≤ nmax) (h : 2 ^ 64 - 1 < (n - 1) ^ 5) :
    buildCheck nmax n true = some .cfgWidth :=
  (if_neg (Nat.not_le.mpr h2)).trans ((if_neg (Nat.not_lt.mpr hn)).trans (if_pos ⟨rfl, h⟩))

/-- R141: BUILD raises the cause of the check that fails. -/
theorem execBuild_of_failed {s : State} {cause : Cause}
    (h : buildCheck s.params.nmax s.n.toNat s.config.width64 = some cause) :
    exec .build s = .next (s.raiseError cause) := by
  simp only [exec, execBuild, h]

/-- R140: a BUILD that passes the checks writes PT and FB, clears CURSOR, sets BUILT, and completes. -/
theorem execBuild_of_passed {s : State} (h : buildCheck s.params.nmax s.n.toNat s.config.width64 = none) :
    exec .build s = .next (((s.setTables (builtTable s.config.width64 s.n.toNat s.pt)
      (builtFilter s.config.width64 s.n.toNat)).setCursor 0).updStatus (·.setBuilt true)).succeed := by
  simp only [exec, execBuild, h]

/-- R65: BUILD's writes of the tables, CURSOR and BUILT leave the rest as a completed command does. -/
theorem completedOk_build (s : State) (pt : List Wide) (fb : Filter) :
    CompletedOk s.counters { s.status with built := true } s
      (((s.setTables pt fb).setCursor 0).updStatus (·.setBuilt true)).succeed where
  idle := rfl
  counters := rfl
  status := rfl
  record := ⟨rfl, rfl⟩
  port := ⟨rfl, rfl, rfl, rfl, rfl, rfl, rfl, rfl, rfl⟩

/-! ### LDP's checks (R142) -/

theorem execLdp_indexRange {rd rs1 : Reg} {s : State} (hb : s.status.built = true)
    (hn : s.n.toNat ≤ (s.x rs1).toNat) :
    exec (.ldp rd rs1) s = .next ((s.noteRead rs1).raiseError .indexRange) :=
  (if_neg (by simp [hb])).trans (if_pos hn)

/-- R142: an LDP that passes both checks writes the entry to rd. -/
theorem execLdp_writesRegister {rd rs1 : Reg} {s : State} (hb : s.status.built = true)
    (hn : (s.x rs1).toNat < s.n.toNat) :
    ∃ t, WritesRegister (.ldp rd rs1) rd (s.ptRead (s.x rs1).toNat) s.status s t :=
  writesRegister_of_exec id (s.recordAfterReads_one rs1)
    ((if_neg (by simp [hb])).trans (if_neg (Nat.not_le.mpr hn)))

/-! ### The obligations -/

/-- Settles O28: each hypothesis names the check that answers; none answers when all three pass
(`buildCheck_eq_none`). -/
theorem buildChecksRunInOrder : Obligations.BuildChecksRunInOrder := by
  intro s word hp
  have hfail {cause : Cause} (h : buildCheck s.params.nmax s.n.toNat s.config.width64 = some cause) :
      ∃ t, exec .build s = .next t ∧ EndedInError cause word s t ∧ t.unwrittenRead = s.unwrittenRead :=
    failsWith_of_exec hp (execBuild_of_failed h)
  refine ⟨fun h => hfail (buildCheck_small h), fun h2 h => hfail (buildCheck_large h2 h), fun h2 hn hw h => ?_,
    fun h2 hn hw => ?_⟩
  · exact hfail (hw ▸ buildCheck_width h2 hn h)
  · exact ⟨_, execBuild_of_passed ((buildCheck_eq_none _ _ _).mpr ⟨h2, hn, hw⟩), rfl, completedOk_build s _ _⟩

/-- Settles O31: with BUILT = 0 nothing is read (`exec_notBuilt`); else the read of rs1 is noted, whether the index is in
range or not. -/
theorem ldpReadsTheEntryOrFails : Obligations.LdpReadsTheEntryOrFails := by
  intro rd rs1 s
  refine ⟨fun hb word hp => ?_, fun hb hn word hp => ?_, fun hb hn => ?_⟩
  · exact failsWith_of_exec hp (exec_notBuilt rfl hb)
  · rw [← s.recordAfterReads_one]
    exact failsWith_of_exec hp (execLdp_indexRange hb hn)
  · obtain ⟨t, hrun, hwrote, hrecord⟩ := execLdp_writesRegister (rd := rd) hb hn
    exact ⟨t, hrun, hwrote, hrecord⟩

end Sys2Proof.Machine
end

section
/-! PROOFS. The MembershipIndex commands LOOKUP, FPROBE and SETCUR (42_membership.md R161, R165, R170). The one idea: a
LOOKUP that passes the filter is decided by what the confirmation stage answers, so a hit and a miss are said once for both
strategies, and what is left is when HASH and when SCAN answers a base. -/

namespace Sys2Proof.Machine

/-! ### FPROBE and SETCUR, after the check of BUILT (R165, R170) -/

theorem execFprobe_of_built {rs1 : Reg} {s : State} (hb : s.status.built = true) :
    exec (.fprobe rs1) s =
      .next (((s.noteRead rs1).updStatus (·.setFh (filterBit s.fb (fold16 (s.x rs1))))).succeed) :=
  if_neg (by simp [hb])

theorem execSetcur_cursorRange {rs1 : Reg} {s : State} (hb : s.status.built = true)
    (hn : s.n.toNat < (s.x rs1).toNat) :
    exec (.setcur rs1) s = .next ((s.noteRead rs1).raiseError .cursorRange) :=
  (if_neg (by simp [hb])).trans (if_pos hn)

theorem execSetcur_inRange {rs1 : Reg} {s : State} (hb : s.status.built = true)
    (hn : (s.x rs1).toNat ≤ s.n.toNat) :
    exec (.setcur rs1) s = .next ((s.noteRead rs1).setCursor (BitVec.ofNat 64 (s.x rs1).toNat)).succeed :=
  (if_neg (by simp [hb])).trans (if_neg (Nat.not_lt.mpr hn))

/-- R65: a command that notes its reads, writes CURSOR but no register, and completes. -/
theorem wroteNoRegister_setCursor_succeed (s : State) (record : Bool) (c : Half) :
    WroteNoRegister c s.status s (({ s with unwrittenRead := record } : State).setCursor c).succeed where
  w := rfl
  cursor := rfl
  tables := ⟨fun _ => rfl, fun _ => rfl⟩
  completed := ⟨rfl, rfl, rfl, ⟨rfl, rfl⟩, ⟨rfl, rfl, rfl, rfl, rfl, rfl, rfl, rfl, rfl⟩⟩

/-- An index up to N fits in the 64 bits of CURSOR. -/
theorem toNat_ofNat_of_le_toNat {k : Nat} {n : Half} (h : k ≤ n.toNat) : (BitVec.ofNat 64 k).toNat = k := by
  rw [BitVec.toNat_ofNat, Nat.mod_eq_of_lt (h.trans_lt n.isLt)]

/-! ### What the confirmation stage answers (R161) -/

theorem confirm_hash_of_smallest {s : State} {v : Wide} {j : Nat} (hs : s.config.strategy = .hash)
    (hj : s.IsBase v j) (hmin : ∀ k, k < j → ¬ s.IsBase v k) :
    confirm s v = { base := some j, cursor := s.cursor } := by
  have hfind : findBase s.entries v 0 = some j := by
    rw [findBase_eq_some]
    exact ⟨Nat.zero_le j, (s.entries_getElem?_eq_some j v).mpr hj,
      fun k _ hk he => hmin k hk ((s.entries_getElem?_eq_some k v).mp he)⟩
  simp only [confirm, hs, confirmHash, hfind]

theorem confirm_hash_of_none {s : State} {v : Wide} (hs : s.config.strategy = .hash)
    (hnone : ∀ j, ¬ s.IsBase v j) : confirm s v = { base := none, cursor := s.cursor } := by
  have hfind : findBase s.entries v 0 = none := by
    rw [findBase_eq_none, List.mem_iff_getElem?]
    rintro ⟨j, hj⟩
    exact hnone j ((s.entries_getElem?_eq_some j v).mp hj)
  simp only [confirm, hs, confirmHash, hfind]

/-- The place where the SCAN loop of R161 stops, begun at CURSOR (`scanStopsAt_scanStop`). -/
def State.scanEnd (s : State) (v : Wide) : Nat := scanStop (s.entries.drop s.cursor.toNat) v s.cursor.toNat

theorem confirm_scan_of_base {s : State} {v : Wide} (hs : s.config.strategy = .scan) (hc : s.IsBase v (s.scanEnd v)) :
    confirm s v = { base := some (s.scanEnd v), cursor := BitVec.ofNat 64 (s.scanEnd v) } := by
  have he := (s.entries_getElem?_eq_some _ v).mpr hc
  rw [State.scanEnd] at he ⊢
  simp only [confirm, hs, confirmScan, if_pos he]

theorem confirm_scan_of_not_base {s : State} {v : Wide} (hs : s.config.strategy = .scan)
    (hc : ¬ s.IsBase v (s.scanEnd v)) :
    confirm s v = { base := none, cursor := BitVec.ofNat 64 (s.scanEnd v) } := by
  have he := mt (s.entries_getElem?_eq_some _ v).mp hc
  rw [State.scanEnd] at he ⊢
  simp only [confirm, hs, confirmScan, if_neg he]

/-! ### What a LOOKUP leaves (R161) -/

/-- A LOOKUP leaves `s` as `t`: it noted its read (R22), wrote `v` to rd, left CURSOR as `c`, counted as `k` and left STATUS
as `st`. -/
structure LooksUp (rd rs1 : Reg) (v : Wide) (c : Half) (k : Counters) (st : Status) (s t : State) : Prop where
  run : exec (.lookup rd rs1) s = .next t
  record : t.unwrittenRead = s.recordAfterReads [rs1]
  wrote : Wrote rd v c k st s t

theorem looksUp_of_exec {rd rs1 : Reg} {v : Wide} {c : Half} {k : Counters} {st : Status} {s : State}
    (hk : k.cmdcnt = s.counters.cmdcnt)
    (h : exec (.lookup rd rs1) s = .next ((({ s.noteRead rs1 with cursor := c, counters := k, status := st } :
      State).setW rd v).succeed)) :
    ∃ t, LooksUp rd rs1 v c k st s t :=
  ⟨_, h, s.recordAfterReads_one rs1, wrote_succeed s _ rd v c k st hk⟩

theorem looksUp_rejected (rd : Reg) {rs1 : Reg} {s : State} (hb : s.status.built = true)
    (hf : filterBit s.fb (fold16 (s.x rs1)) = false) :
    ∃ t, LooksUp rd rs1 (BitVec.allOnes 128) s.cursor { s.counters with lkcnt := s.counters.lkcnt + 1 }
      { s.status with fh := false, hit := false } s t :=
  looksUp_of_exec rfl (execLookup_rejected rd rs1 s hb hf)

theorem looksUp_hit (rd : Reg) {rs1 : Reg} {s : State} {j : Nat} {c : Half} (hb : s.status.built = true)
    (hf : filterBit s.fb (fold16 (s.x rs1)) = true) (ha : confirm s (s.x rs1) = { base := some j, cursor := c }) :
    ∃ t, LooksUp rd rs1 (BitVec.ofNat 128 j) c
      { s.counters with
        lkcnt := s.counters.lkcnt + 1, fhcnt := s.counters.fhcnt + 1, hitcnt := s.counters.hitcnt + 1 }
      { s.status with fh := true, hit := true } s t := by
  have hrun := execLookup_confirmed rd rs1 s hb hf
  rw [ha, lookupConfirmed_some] at hrun
  exact looksUp_of_exec rfl hrun

theorem looksUp_miss (rd : Reg) {rs1 : Reg} {s : State} {c : Half} (hb : s.status.built = true)
    (hf : filterBit s.fb (fold16 (s.x rs1)) = true) (ha : confirm s (s.x rs1) = { base := none, cursor := c }) :
    ∃ t, LooksUp rd rs1 (BitVec.allOnes 128) c
      { s.counters with lkcnt := s.counters.lkcnt + 1, fhcnt := s.counters.fhcnt + 1 }
      { s.status with fh := true, hit := false } s t := by
  have hrun := execLookup_confirmed rd rs1 s hb hf
  rw [ha, lookupConfirmed_none] at hrun
  exact looksUp_of_exec rfl hrun

/-! ### The obligations -/

/-- Settles O32: a filter miss answers at once; else the confirmation answers, under HASH the smallest base if there is
one, under SCAN the stop of the scan if it is a base. -/
theorem lookupFollowsItsPseudocode : Obligations.LookupFollowsItsPseudocode := by
  intro rd rs1 s
  refine ⟨fun hb word hp => ?_, fun hb hf => ?_, fun hb hf hs j hj hmin => ?_, fun hb hf hs hnone => ?_,
    fun hb hf hs => ?_⟩
  · exact failsWith_of_exec hp (exec_notBuilt rfl hb)
  · obtain ⟨t, hrun, hrecord, hwrote⟩ := looksUp_rejected rd hb hf
    exact ⟨t, hrun, hrecord, hwrote⟩
  · obtain ⟨t, hrun, hrecord, hwrote⟩ := looksUp_hit rd hb hf (confirm_hash_of_smallest hs hj hmin)
    exact ⟨t, hrun, hrecord, hwrote⟩
  · obtain ⟨t, hrun, hrecord, hwrote⟩ := looksUp_miss rd hb hf (confirm_hash_of_none hs hnone)
    exact ⟨t, hrun, hrecord, hwrote⟩
  · have hstop : s.ScanStopsAt (s.x rs1) (s.scanEnd (s.x rs1)) := scanStopsAt_scanStop s (s.x rs1)
    by_cases hc : s.IsBase (s.x rs1) (s.scanEnd (s.x rs1))
    · obtain ⟨t, hrun, hrecord, hwrote⟩ := looksUp_hit rd hb hf (confirm_scan_of_base hs hc)
      exact ⟨_, t, hstop, hrun, hrecord, fun _ => hwrote, fun hn => absurd hc hn⟩
    · obtain ⟨t, hrun, hrecord, hwrote⟩ := looksUp_miss rd hb hf (confirm_scan_of_not_base hs hc)
      exact ⟨_, t, hstop, hrun, hrecord, fun h => absurd h hc, fun _ => hwrote⟩

/-- Settles O37: N itself passes the range check, and an index that passes fits in CURSOR. -/
theorem setcurSetsTheCursorUpToN : Obligations.SetcurSetsTheCursorUpToN := by
  intro rs1 s
  refine ⟨fun hb word hp => ?_, fun hb hn word hp => ?_, fun hb hn => ?_⟩
  · exact failsWith_of_exec hp (exec_notBuilt rfl hb)
  · rw [← s.recordAfterReads_one]
    exact failsWith_of_exec hp (execSetcur_cursorRange hb hn)
  · exact ⟨_, execSetcur_inRange hb hn, s.recordAfterReads_one rs1, toNat_ofNat_of_le_toNat hn,
      wroteNoRegister_setCursor_succeed s _ _⟩

/-- Settles O36: after the check of BUILT the one write is that of FH. -/
theorem fprobeWritesOnlyFh : Obligations.FprobeWritesOnlyFh := by
  intro rs1 s
  refine ⟨fun hb word hp => ?_, fun hb => ?_⟩
  · exact failsWith_of_exec hp (exec_notBuilt rfl hb)
  · exact ⟨_, execFprobe_of_built hb, s.recordAfterReads_one rs1,
      wroteNoRegister_succeed s _ (·.setFh (filterBit s.fb (fold16 (s.x rs1))))⟩

end Sys2Proof.Machine
end

section
/-! PROOFS. Recovery from an error and the interrupt output (60_exceptions.md R210, R211, R215). The one idea: clearing ERR
writes STATUS alone, so the error record and PENDING stay, and an idle block with ERR = 0 is what R64 asks for. -/

namespace Sys2Proof.Machine

/-- R56: a write of STATUS with a 1 in bit 3 leaves ERR = 0. -/
theorem Status.writeOneToClear_err_of_set {v : Half} (hv : v.getLsbD 3 = true) (st : Status) :
    (st.writeOneToClear v).err = false := by
  simp only [Status.writeOneToClear, hv, Bool.not_true, Bool.and_false]

/-! ### The pending bits and their enables, as the host reads them (R24, R37) -/

/-- The form of `getLsbD_bitAt` for a bit that is a numeral, which simp writes with brackets. -/
theorem getElem_bitAt {j k : Nat} (hj : j < 64) (hk : k < 64) (b : Bool) :
    (bitAt j b)[k] = (b && decide (j = k)) := by
  rw [← BitVec.getLsbD_eq_getElem hk, getLsbD_bitAt hj]

theorem getLsbD_statusWord_done (s : State) : s.statusWord.getLsbD 2 = s.status.done := by
  simp [State.statusWord, Status.word, getElem_bitAt]

theorem getLsbD_statusWord_err (s : State) : s.statusWord.getLsbD 3 = s.status.err := by
  simp [State.statusWord, Status.word, getElem_bitAt]

theorem IrqEnable.getLsbD_word_doneie (e : IrqEnable) : e.word.getLsbD 0 = e.doneie := by
  simp [IrqEnable.word, getElem_bitAt]

theorem IrqEnable.getLsbD_word_errie (e : IrqEnable) : e.word.getLsbD 1 = e.errie := by
  simp [IrqEnable.word, getElem_bitAt]

/-! ### The obligations -/

/-- Settles O51: ERR = 1 alone drops the CMD write; after the write of STATUS the block is idle with ERR = 0, and accepting
a word writes no field of the error record. -/
theorem errorRecoveryByStatusWrite : Obligations.ErrorRecoveryByStatusWrite := by
  intro s v clear herr hidle hclear
  have hcleared : (s.updStatus (·.writeOneToClear clear)).status.err = false :=
    Status.writeOneToClear_err_of_set hclear s.status
  have hstillIdle : (s.updStatus (·.writeOneToClear clear)).pending = none := hidle
  exact ⟨step_writeCmd_dropped (.inr herr) v,
    _, step_writeStatus s clear, hcleared, rfl, rfl, hstillIdle,
    _, step_writeCmd_accepted hstillIdle hcleared v, rfl, rfl, rfl⟩

/-- Settles O52: DONE and ERR are bits 2 and 3 of STATUS, DONEIE and ERRIE bits 0 and 1 of IRQEN. -/
theorem irqIsDoneOrErrEnabled : Obligations.IrqIsDoneOrErrEnabled := by
  intro s
  rw [getLsbD_statusWord_done, getLsbD_statusWord_err, IrqEnable.getLsbD_word_doneie, IrqEnable.getLsbD_word_errie]
  rfl

end Sys2Proof.Machine
end

section
/-! PROOFS. Decoder and encoder (30_encoding.md R81 to R94, 20_memory.md R53). The one idea: a word is its five fields
(`fieldsOf` and `wordOf` are inverse to each other), and it decodes to a command exactly when its fields are that
command's (`decode_eq_ok_iff_fields`). A row's mask of R86 is seen the same way, as a mask for each field. -/

namespace Sys2Proof

/-! ### A word is its fields (R81) -/

@[simp] theorem fieldsOf_wordOf (f : Fields) : fieldsOf (wordOf f) = f := by
  obtain ⟨op, rd, rs1, rs2, imm⟩ := f
  simp only [fieldsOf, wordOf, Fields.mk.injEq]
  refine ⟨?_, ?_, ?_, ?_, ?_⟩
  all_goals
    apply BitVec.eq_of_getLsbD_eq
    intro k hk
    simp only [BitVec.getLsbD_extractLsb', BitVec.getLsbD_append, hk, decide_true, Bool.true_and]
    grind

@[simp] theorem wordOf_fieldsOf (x : CommandWord) : wordOf (fieldsOf x) = x := by
  apply BitVec.eq_of_getLsbD_eq
  intro k hk
  simp only [wordOf, fieldsOf, BitVec.getLsbD_append, BitVec.getLsbD_extractLsb']
  grind

theorem wordOf_inj {f g : Fields} : wordOf f = wordOf g ↔ f = g :=
  ⟨fun h => by rw [← fieldsOf_wordOf f, h, fieldsOf_wordOf], congrArg wordOf⟩

theorem fieldsOf_opcode_toNat (x : CommandWord) : (fieldsOf x).opcode.toNat = x.toNat / 2 ^ 26 := by
  have := x.isLt
  simp only [fieldsOf, BitVec.extractLsb'_toNat, Nat.shiftRight_eq_div_pow]
  omega

/-! ### The opcode map (R86) -/

theorem mnemonicOfOpcode_eq_some (op : BitVec 6) (m : Mnemonic) : mnemonicOfOpcode op = some m ↔ op = m.opcode := by
  revert op
  cases m <;> decide

/-- R88: the reserved opcodes. -/
theorem mnemonicOfOpcode_eq_none (op : BitVec 6) :
    mnemonicOfOpcode op = none ↔
      (0x0B ≤ op.toNat ∧ op.toNat ≤ 0x1F) ∨ (0x22 ≤ op.toNat ∧ op.toNat ≤ 0x27) ∨
      (0x2B ≤ op.toNat ∧ op.toNat ≤ 0x3F) := by
  revert op
  decide

theorem Mnemonic.opcode_inj {m m' : Mnemonic} (h : m.opcode = m'.opcode) : m = m' := by
  have hm := (mnemonicOfOpcode_eq_some _ m).mpr rfl
  rw [h, (mnemonicOfOpcode_eq_some _ m').mpr rfl] at hm
  exact (Option.some.inj hm).symm

/-! ### A row's command and its fields (R82, R85, R91) -/

/-- R87: the fields have the row's opcode, and 0 where the row's format uses no field. -/
def Fields.OfRow (f : Fields) (m : Mnemonic) : Prop := f.opcode = m.opcode ∧ f.reservedZero m.format = true

@[simp] theorem fieldOfReg_regOf (field : BitVec 3) : fieldOfReg (regOf field) = field := rfl

@[simp] theorem Mnemonic.mnemonic_instr (m : Mnemonic) (f : Fields) : (m.instr f).mnemonic = m := by
  cases m <;> rfl

@[simp] theorem Instr.instr_fields (i : Instr) : i.mnemonic.instr i.fields = i := by
  cases i <;> rfl

theorem Instr.fields_ofRow (i : Instr) : i.fields.OfRow i.mnemonic := by
  cases i <;> exact ⟨rfl, by simp [Fields.reservedZero, Mnemonic.format, Instr.fields, Instr.mnemonic]⟩

/-- R82, R85: the command of a row has no field but those the row's format reads, and the rest are 0. -/
theorem Mnemonic.fields_instr {m : Mnemonic} {f : Fields} (h : f.OfRow m) : (m.instr f).fields = f := by
  obtain ⟨op, rd, rs1, rs2, imm⟩ := f
  obtain ⟨hop, hz⟩ := h
  cases m <;> simp_all [Fields.reservedZero, Mnemonic.format, Mnemonic.instr, Instr.fields, Instr.mnemonic]

/-! ### What a word decodes to (R87, R88, R90) -/

theorem decode_of_opcode {x : CommandWord} {m : Mnemonic} (h : (fieldsOf x).opcode = m.opcode) :
    decode x =
      if (fieldsOf x).reservedZero m.format then .ok (m.instr (fieldsOf x)) else .error .reservedBit := by
  simp only [decode, (mnemonicOfOpcode_eq_some _ m).mpr h]

theorem decode_eq_reservedOpcode (x : CommandWord) :
    decode x = .error .reservedOpcode ↔ mnemonicOfOpcode (fieldsOf x).opcode = none := by
  cases hm : mnemonicOfOpcode (fieldsOf x).opcode with
  | none => simp [decode, hm]
  | some m =>
    rw [decode_of_opcode ((mnemonicOfOpcode_eq_some _ m).mp hm)]
    split <;> simp

/-- A word decodes to a command of the row its fields belong to, and to the one with these fields. -/
theorem decode_eq_ok_iff_row (x : CommandWord) (i : Instr) :
    decode x = .ok i ↔ ∃ m, (fieldsOf x).OfRow m ∧ m.instr (fieldsOf x) = i := by
  constructor
  · intro h
    cases hm : mnemonicOfOpcode (fieldsOf x).opcode with
    | none => rw [(decode_eq_reservedOpcode x).mpr hm] at h; cases h
    | some m =>
      have hop := (mnemonicOfOpcode_eq_some _ m).mp hm
      rw [decode_of_opcode hop] at h
      split at h
      · next hz => exact ⟨m, ⟨hop, hz⟩, Except.ok.inj h⟩
      · cases h
  · rintro ⟨m, ⟨hop, hz⟩, rfl⟩
    rw [decode_of_opcode hop, if_pos hz]

/-- R87: a word decodes to a command exactly when its fields are the command's. -/
theorem decode_eq_ok_iff_fields (x : CommandWord) (i : Instr) : decode x = .ok i ↔ fieldsOf x = i.fields := by
  rw [decode_eq_ok_iff_row]
  constructor
  · rintro ⟨m, hrow, rfl⟩
    exact (Mnemonic.fields_instr hrow).symm
  · intro h
    rw [h]
    exact ⟨i.mnemonic, i.fields_ofRow, i.instr_fields⟩

theorem decode_eq_ok_iff_encode (x : CommandWord) (i : Instr) : decode x = .ok i ↔ x = encode i := by
  rw [decode_eq_ok_iff_fields, ← wordOf_inj, wordOf_fieldsOf, encode]

theorem decode_eq_reservedBit (x : CommandWord) :
    decode x = .error .reservedBit ↔ ∃ m : Mnemonic, (fieldsOf x).opcode = m.opcode ∧ ¬ (fieldsOf x).OfRow m := by
  constructor
  · intro h
    cases hm : mnemonicOfOpcode (fieldsOf x).opcode with
    | none => rw [(decode_eq_reservedOpcode x).mpr hm] at h; cases h
    | some m =>
      refine ⟨m, (mnemonicOfOpcode_eq_some _ m).mp hm, fun hrow => ?_⟩
      rw [(decode_eq_ok_iff_row x _).mpr ⟨m, hrow, rfl⟩] at h
      cases h
  · rintro ⟨m, hop, hrow⟩
    rw [decode_of_opcode hop, if_neg fun hz => hrow ⟨hop, hz⟩]

/-! ### Masks, field by field (R86, R87) -/

/-- The fields of a row's mask: all ones in the opcode and in the fields its format does not use. -/
def Format.maskFields : Format → Fields
  | .f0 => ⟨.allOnes 6, .allOnes 3, .allOnes 3, .allOnes 3, .allOnes 17⟩
  | .fi => ⟨.allOnes 6, 0, .allOnes 3, .allOnes 3, 0⟩
  | .fr => ⟨.allOnes 6, 0, 0, .allOnes 3, .allOnes 17⟩
  | .frr => ⟨.allOnes 6, 0, 0, 0, .allOnes 17⟩
  | .fc => ⟨.allOnes 6, .allOnes 3, 0, 0, .allOnes 17⟩
  | .fs => ⟨.allOnes 6, .allOnes 3, 0, .allOnes 3, .allOnes 17⟩

/-- The bits of one set of fields that are set in the other, field by field. -/
def Fields.and (f g : Fields) : Fields :=
  ⟨f.opcode &&& g.opcode, f.rd &&& g.rd, f.rs1 &&& g.rs1, f.rs2 &&& g.rs2, f.imm17 &&& g.imm17⟩

theorem wordOf_and (f g : Fields) : wordOf f &&& wordOf g = wordOf (f.and g) := by
  apply BitVec.eq_of_getLsbD_eq
  intro k hk
  simp only [wordOf, Fields.and, BitVec.getLsbD_and, BitVec.getLsbD_append]
  split_ifs <;> rfl

theorem Mnemonic.mask_eq (m : Mnemonic) : m.mask = wordOf m.format.maskFields := by
  cases m <;> decide

theorem Mnemonic.matchBits_eq (m : Mnemonic) : m.matchBits = wordOf ⟨m.opcode, 0, 0, 0, 0⟩ := by
  cases m <;> decide

/-- R85: a reserved-zero field is one the format's mask covers. -/
theorem Fields.and_maskFields_iff (f : Fields) (fmt : Format) (op : BitVec 6) :
    f.and fmt.maskFields = ⟨op, 0, 0, 0, 0⟩ ↔ f.opcode = op ∧ f.reservedZero fmt = true := by
  cases fmt <;> simp [Fields.and, Format.maskFields, Fields.reservedZero, and_assoc, -BitVec.reduceAllOnes]

/-- R87: a word matches a row under its mask exactly when its fields belong to the row. -/
theorem matches_iff_ofRow (x : CommandWord) (m : Mnemonic) : x &&& m.mask = m.matchBits ↔ (fieldsOf x).OfRow m := by
  rw [m.mask_eq, m.matchBits_eq]
  conv_lhs => rw [← wordOf_fieldsOf x]
  rw [wordOf_and, wordOf_inj, Fields.and_maskFields_iff, Fields.OfRow]

/-! ### Byte lanes (20_memory.md R53) -/

theorem getLsbD_byteLane (v : Half) (k : Nat) {j : Nat} (hj : j < 8) :
    (byteLane v k).getLsbD j = v.getLsbD (8 * k + j) := by
  simp [byteLane, hj]

theorem ofByteLanes_byteLane (v : Half) :
    ofByteLanes (byteLane v 0) (byteLane v 1) (byteLane v 2) (byteLane v 3)
      (byteLane v 4) (byteLane v 5) (byteLane v 6) (byteLane v 7) = v := by
  apply BitVec.eq_of_getLsbD_eq
  intro k hk
  simp only [ofByteLanes, byteLane, BitVec.getLsbD_append, BitVec.getLsbD_extractLsb']
  grind

/-! ### The obligations -/

/-- Settles O1: the fields of a command's word are the command's. -/
theorem everyCommandDecodesFromItsWord : Obligations.EveryCommandDecodesFromItsWord :=
  fun i => (decode_eq_ok_iff_encode (encode i) i).mpr rfl

/-- Settles O2: a word is determined by its fields. -/
theorem everyLegalWordIsItsCommandsWord : Obligations.EveryLegalWordIsItsCommandsWord :=
  fun x i h => ((decode_eq_ok_iff_encode x i).mp h).symm

/-- Settles O3: to match a row is to have its opcode and its reserved zeros, and no two rows share an opcode. -/
theorem wordDecodesByMaskAndMatch : Obligations.WordDecodesByMaskAndMatch := by
  refine ⟨fun x m => ?_, fun x m m' h h' => ?_⟩
  · simp only [matches_iff_ofRow, decode_eq_ok_iff_row]
    constructor
    · rintro ⟨i, ⟨m', hrow, rfl⟩, rfl⟩
      rwa [m'.mnemonic_instr]
    · exact fun hrow => ⟨_, ⟨m, hrow, rfl⟩, m.mnemonic_instr _⟩
  · rw [matches_iff_ofRow] at h h'
    exact Mnemonic.opcode_inj (h.1.symm.trans h'.1)

/-- Settles O4: the opcode is the word's top six bits, and a row whose opcode it is decides the rest. -/
theorem wordIsIllegalByOpcodeOrReservedBit : Obligations.WordIsIllegalByOpcodeOrReservedBit := by
  refine ⟨fun x => ?_, fun x => ?_, fun x => decode_eq_ok_iff_encode x .nop, by decide⟩
  · rw [decode_eq_reservedOpcode, mnemonicOfOpcode_eq_none, fieldsOf_opcode_toNat]
  · simp only [decode_eq_reservedBit, ne_eq, matches_iff_ofRow, ← fieldsOf_opcode_toNat, BitVec.toNat_inj,
      eq_comm (b := (fieldsOf x).opcode)]

/-- Settles O6: the assembler and the decoder run on the twelve examples of R94. -/
theorem specExampleWordsAssembleAndDecode : Obligations.SpecExampleWordsAssembleAndDecode := by
  unfold Obligations.SpecExampleWordsAssembleAndDecode
  decide +kernel

/-- Settles O9: lane k is cut from bit 8k on, and the lanes are put back in the same order. -/
theorem byteLanesAreLittleEndian : Obligations.ByteLanesAreLittleEndian :=
  fun v => ⟨fun k _ _ hj => getLsbD_byteLane v k hj, ofByteLanes_byteLane v⟩

end Sys2Proof
end

section
/-! PROOFS. The assembler (30_encoding.md R92). The one idea: each operand form (`oneReg`, `twoRegs`, ...) makes a
command exactly when the operands are of its kinds and in range, whatever the command is, so a mnemonic only has to
name its form. -/

namespace Sys2Proof.Machine

/-! ### Operands of the kinds a form takes -/

/-- R92: the operands are of these kinds, and each is in range. -/
def operandsFit (kinds : List OperandKind) (operands : List SourceOperand) : Bool :=
  decide (operands.map (·.kind) = kinds) && operands.all (·.wellFormed)

theorem SourceLine.wellFormed_eq (l : SourceLine) : l.wellFormed = operandsFit l.name.operandKinds l.operands := rfl

@[simp] theorem operandsFit_nil_nil : operandsFit [] [] = true := rfl

@[simp] theorem operandsFit_nil_cons (o : SourceOperand) (l : List SourceOperand) :
    operandsFit [] (o :: l) = false := rfl

@[simp] theorem operandsFit_cons_nil (k : OperandKind) (ks : List OperandKind) : operandsFit (k :: ks) [] = false := rfl

@[simp] theorem operandsFit_cons_cons (k : OperandKind) (ks : List OperandKind) (o : SourceOperand)
    (l : List SourceOperand) :
    operandsFit (k :: ks) (o :: l) = ((decide (o.kind = k) && o.wellFormed) && operandsFit ks l) := by
  simp only [operandsFit, List.map_cons, List.all_cons, List.cons.injEq, Bool.decide_and]
  ac_rfl

@[simp] theorem SourceOperand.isSome_asReg (o : SourceOperand) :
    (SourceOperand.asReg o).isSome = (decide (o.kind = .reg) && o.wellFormed) := by
  cases o with
  | reg r => by_cases h : r < 8 <;> simp [SourceOperand.asReg, SourceOperand.kind, SourceOperand.wellFormed, h]
  | imm v => rfl

@[simp] theorem SourceOperand.isSome_asImm (o : SourceOperand) :
    (SourceOperand.asImm o).isSome = (decide (o.kind = .imm) && o.wellFormed) := by
  cases o with
  | reg r => rfl
  | imm v => by_cases h : v ≤ 131071 <;> simp [SourceOperand.asImm, SourceOperand.kind, SourceOperand.wellFormed, h]

/-! ### What an operand form accepts -/

/-- Two parts of a form that do not depend on each other are accepted exactly when each is. -/
theorem isSome_bind_of_forall {α β : Type} {o : Option α} {f : α → Option β} {b : Bool} (h : ∀ a, (f a).isSome = b) :
    (o.bind f).isSome = (o.isSome && b) := by
  cases o with
  | none => rfl
  | some a => exact h a

theorem isSome_noOperands (i : Instr) (l : List SourceOperand) : (noOperands i l).isSome = operandsFit [] l := by
  cases l <;> rfl

theorem isSome_oneReg (make : Reg → Instr) (l : List SourceOperand) :
    (oneReg make l).isSome = operandsFit [.reg] l := by
  match l with
  | [a] => simp [oneReg]
  | [] | _ :: _ :: _ => simp [oneReg]

theorem isSome_twoRegs (make : Reg → Reg → Instr) (l : List SourceOperand) :
    (twoRegs make l).isSome = operandsFit [.reg, .reg] l := by
  match l with
  | [a, b] =>
    have h : (twoRegs make [a, b]).isSome =
        ((SourceOperand.asReg a).isSome && ((SourceOperand.asReg b).isSome && true)) :=
      isSome_bind_of_forall fun _ => isSome_bind_of_forall fun _ => rfl
    simp [h]
  | [] | [_] | _ :: _ :: _ :: _ => simp [twoRegs]

theorem isSome_threeRegs (make : Reg → Reg → Reg → Instr) (l : List SourceOperand) :
    (threeRegs make l).isSome = operandsFit [.reg, .reg, .reg] l := by
  match l with
  | [a, b, c] =>
    have h : (threeRegs make [a, b, c]).isSome = ((SourceOperand.asReg a).isSome &&
        ((SourceOperand.asReg b).isSome && ((SourceOperand.asReg c).isSome && true))) :=
      isSome_bind_of_forall fun _ => isSome_bind_of_forall fun _ => isSome_bind_of_forall fun _ => rfl
    simp [h]
  | [] | [_] | [_, _] | _ :: _ :: _ :: _ :: _ => simp [threeRegs]

theorem isSome_regImm (make : Reg → BitVec 17 → Instr) (l : List SourceOperand) :
    (regImm make l).isSome = operandsFit [.reg, .imm] l := by
  match l with
  | [a, b] =>
    have h : (regImm make [a, b]).isSome =
        ((SourceOperand.asReg a).isSome && ((SourceOperand.asImm b).isSome && true)) :=
      isSome_bind_of_forall fun _ => isSome_bind_of_forall fun _ => rfl
    simp [h]
  | [] | [_] | _ :: _ :: _ :: _ => simp [regImm]

theorem isSome_assemble (l : SourceLine) : (assemble l).isSome = l.wellFormed := by
  obtain ⟨name, operands⟩ := l
  rw [SourceLine.wellFormed_eq]
  cases name with
  | command m =>
    cases m with
    | nop | build => exact isSome_noOperands _ operands
    | li => exact isSome_regImm _ operands
    | mov | pow5 | cmp | fold16 | fold32 | fold64 | ldp | lookup => exact isSome_twoRegs _ operands
    | add | mul | mulll => exact isSome_threeRegs _ operands
    | fprobe | setcur => exact isSome_oneReg _ operands
  | clr | probe => exact isSome_oneReg _ operands
  | sqr | dbl => exact isSome_twoRegs _ operands

/-! ### The line a command is written by -/

/-- R92: the operands of a command, as its line writes them. -/
def sourceOperands : Instr → List SourceOperand
  | .nop | .build => []
  | .li rd imm17 => [.reg rd.val, .imm imm17.toNat]
  | .mov a b | .pow5 a b | .cmp a b | .fold16 a b | .fold32 a b | .fold64 a b | .ldp a b | .lookup a b =>
    [.reg a.val, .reg b.val]
  | .add a b c | .mul a b c | .mulll a b c => [.reg a.val, .reg b.val, .reg c.val]
  | .fprobe a | .setcur a => [.reg a.val]

theorem threeRegs_reg (make : Reg → Reg → Reg → Instr) (a b c : Reg) :
    threeRegs make [.reg a.val, .reg b.val, .reg c.val] = some (make a b c) := by
  simp [threeRegs]

/-- R83, R92: every 17-bit immediate may be written. -/
@[simp] theorem SourceOperand.asImm_imm (v : BitVec 17) : SourceOperand.asImm (.imm v.toNat) = some v := by
  have hv : v.toNat ≤ 131071 := Nat.le_of_lt_succ v.isLt
  simp [SourceOperand.asImm, hv]

theorem regImm_reg_imm (make : Reg → BitVec 17 → Instr) (a : Reg) (v : BitVec 17) :
    regImm make [.reg a.val, .imm v.toNat] = some (make a v) := by
  simp [regImm]

theorem assemble_sourceOperands (i : Instr) : assemble ⟨.command i.mnemonic, sourceOperands i⟩ = some i := by
  cases i with
  | nop | build => rfl
  | li rd imm17 => exact regImm_reg_imm .li rd imm17
  | mov | pow5 | cmp | fold16 | fold32 | fold64 | ldp | lookup => exact twoRegs_reg _ _ _
  | add | mul | mulll => exact threeRegs_reg _ _ _ _
  | fprobe | setcur => exact oneReg_reg _ _

/-- Settles O7: each mnemonic's form accepts its kinds of operands (`isSome_assemble`), and a command's own operands
are read back as the command. -/
theorem assemblerAcceptsExactlyTheWellFormedLines : Obligations.AssemblerAcceptsExactlyTheWellFormedLines :=
  ⟨isSome_assemble, fun i => ⟨_, rfl, assemble_sourceOperands i⟩⟩

end Sys2Proof.Machine
end

section
/-! PROOFS. The laws of the integer commands (40_wideinteger.md R105, R106, R108, R113). The one idea: a result of
width w is an exact number reduced modulo 2^w, so a law of the results is the law of the numbers, and a flag says
whether the reduction changed anything. -/

namespace Sys2Proof.Machine

/-! ### Results as numbers modulo 2^w -/

theorem addSum_toNat_mod (width64 : Bool) (a b : Wide) :
    (addSum width64 a b).toNat = (a.toNat + b.toNat) % 2 ^ widthBits width64 := by
  rw [addSum_toNat, opnd_toNat, opnd_toNat, ← Nat.add_mod]

theorem mulProduct_toNat_mod (width64 : Bool) (a b : Wide) :
    (mulProduct width64 a b).toNat = a.toNat * b.toNat % 2 ^ widthBits width64 := by
  rw [mulProduct_toNat, opnd_toNat, opnd_toNat, ← Nat.mul_mod]

/-! ### ADD and MUL at w = 128 (R105, R106) -/

/-- Settles O18: at w = 128 an operand is the whole value, so C and V say that the exact result reaches 2^128. -/
theorem addAndMulAgreeWithExactArithmetic : Obligations.AddAndMulAgreeWithExactArithmetic := by
  intro rd rs1 rs2 s hw
  constructor
  · obtain ⟨t, hrun, hwrote, -⟩ := execAdd_writesRegister rd rs1 rs2 s
    obtain ⟨hx, hc, -⟩ := hwrote.c_readBack
    rw [hw] at hx hc
    refine ⟨t, hrun, ?_⟩
    rw [hx, hc, addSum_toNat_mod, ← Bool.not_eq_true, addCarry_iff, Nat.not_le]
    exact ⟨rfl, (Nat.mod_eq_iff_lt (by decide)).symm⟩
  · obtain ⟨t, hrun, hwrote, -⟩ := execMul_writesRegister rd rs1 rs2 s
    obtain ⟨hx, hv, -⟩ := hwrote.v_readBack
    rw [hw] at hx hv
    refine ⟨t, hrun, ?_⟩
    rw [hx, hv, mulProduct_toNat_mod, ← Bool.not_eq_true, mulOverflow_iff, Nat.not_le]
    exact ⟨rfl, (Nat.mod_eq_iff_lt (by decide)).symm⟩

/-! ### The laws (R113 item 3) -/

theorem addSum_comm (width64 : Bool) (a b : Wide) : addSum width64 a b = addSum width64 b a := by
  apply BitVec.eq_of_toNat_eq
  rw [addSum_toNat_mod, addSum_toNat_mod, Nat.add_comm]

theorem addSum_assoc (width64 : Bool) (a b c : Wide) :
    addSum width64 (addSum width64 a b) c = addSum width64 a (addSum width64 b c) := by
  apply BitVec.eq_of_toNat_eq
  simp only [addSum_toNat_mod, Nat.mod_add_mod, Nat.add_mod_mod, Nat.add_assoc]

theorem mulProduct_comm (width64 : Bool) (a b : Wide) : mulProduct width64 a b = mulProduct width64 b a := by
  apply BitVec.eq_of_toNat_eq
  rw [mulProduct_toNat_mod, mulProduct_toNat_mod, Nat.mul_comm]

theorem mulProduct_assoc (width64 : Bool) (a b c : Wide) :
    mulProduct width64 (mulProduct width64 a b) c = mulProduct width64 a (mulProduct width64 b c) := by
  apply BitVec.eq_of_toNat_eq
  simp only [mulProduct_toNat_mod, Nat.mod_mul_mod, Nat.mul_mod_mod, Nat.mul_assoc]

theorem mulProduct_addSum (width64 : Bool) (a b c : Wide) :
    mulProduct width64 a (addSum width64 b c) = addSum width64 (mulProduct width64 a b) (mulProduct width64 a c) := by
  apply BitVec.eq_of_toNat_eq
  simp only [mulProduct_toNat_mod, addSum_toNat_mod, Nat.mul_mod_mod, Nat.mod_add_mod, Nat.add_mod_mod, Nat.mul_add]

/-- R108: the chain's operand may be the whole value, since MUL takes the width-w operand of both sources. -/
theorem pow5_eq_mulProduct (width64 : Bool) (a : Wide) :
    pow5 width64 a =
      mulProduct width64 (mulProduct width64 (mulProduct width64 (mulProduct width64 a a) a) a) a := by
  apply BitVec.eq_of_toNat_eq
  simp only [pow5_toNat, opnd_toNat, mulProduct_toNat_mod, Nat.mod_mul_mod, ← Nat.pow_mod]
  congr 1
  ring

/-! ### Each fold is a fold of the wider one (R111, R112) -/

theorem fold32_eq_fold64 (v : Wide) :
    fold32 v = (fold64 v).extractLsb' 32 32 ^^^ (fold64 v).extractLsb' 0 32 := by
  apply BitVec.eq_of_getLsbD_eq
  intro k hk
  simp only [getLsbD_fold32 v hk, BitVec.getLsbD_xor, BitVec.getLsbD_extractLsb', hk, decide_true, Bool.true_and,
    getLsbD_fold64 v (show 32 + k < 64 by omega), getLsbD_fold64 v (show 0 + k < 64 by omega)]
  grind

theorem fold16_eq_fold32 (v : Wide) :
    fold16 v = (fold32 v).extractLsb' 16 16 ^^^ (fold32 v).extractLsb' 0 16 := by
  apply BitVec.eq_of_getLsbD_eq
  intro k hk
  simp only [getLsbD_fold16 v hk, BitVec.getLsbD_xor, BitVec.getLsbD_extractLsb', hk, decide_true, Bool.true_and,
    getLsbD_fold32 v (show 16 + k < 32 by omega), getLsbD_fold32 v (show 0 + k < 32 by omega)]
  grind

/-- Settles O26: each law is one of numbers modulo 2^w, and each fold's bits are those of the wider fold's parts. -/
theorem arithmeticAndFoldLaws : Obligations.ArithmeticAndFoldLaws :=
  ⟨fun w a b c => ⟨addSum_comm w a b, addSum_assoc w a b c, mulProduct_comm w a b, mulProduct_assoc w a b c,
    mulProduct_addSum w a b c, pow5_eq_mulProduct w a⟩, fun v => ⟨fold32_eq_fold64 v, fold16_eq_fold32 v⟩⟩

/-! ### The thresholds (R108, R141) -/

/-- A fifth power is below a bound up to the last number whose fifth power is. -/
theorem pow_five_lt_iff {bound last : Nat} (h : last ^ 5 < bound) (h' : bound ≤ (last + 1) ^ 5) (x : Nat) :
    x ^ 5 < bound ↔ x ≤ last := by
  constructor
  · intro hx
    exact Nat.lt_succ_iff.mp (lt_of_pow_lt_pow_left₀ 5 (Nat.zero_le _) (hx.trans_le h'))
  · exact fun hx => (Nat.pow_le_pow_left hx 5).trans_lt h

/-- R108: the exact fifth power overflows exactly when one of the chain's four multiplications does. -/
theorem pow_five_overflows_iff {m x : Nat} (hx : x < m) :
    m ≤ x ^ 5 ↔ ∃ k, 1 ≤ k ∧ k ≤ 4 ∧ m ≤ x ^ k % m * x := by
  constructor
  · intro h5
    by_contra hnone
    -- If no multiplication overflows, every power up to the fifth is its own remainder.
    have hstep : ∀ k, 1 ≤ k → k ≤ 4 → x ^ k < m → x ^ (k + 1) < m := fun k h1 h4 hk => by
      by_contra hge
      refine hnone ⟨k, h1, h4, ?_⟩
      rwa [Nat.mod_eq_of_lt hk, ← pow_succ, ← Nat.not_lt]
    have hlt := hstep 4 (by decide) le_rfl (hstep 3 (by decide) (by decide) (hstep 2 (by decide) (by decide)
      (hstep 1 le_rfl (by decide) (by simpa using hx))))
    exact absurd h5 (Nat.not_le.mpr hlt)
  · rintro ⟨k, -, h4, hk⟩
    have hpos : 0 < x := Nat.pos_of_ne_zero fun h => by simp [h] at hk; omega
    calc m ≤ x ^ k % m * x := hk
      _ ≤ x ^ k * x := Nat.mul_le_mul_right x (Nat.mod_le _ _)
      _ = x ^ (k + 1) := (pow_succ x k).symm
      _ ≤ x ^ 5 := Nat.pow_le_pow_right hpos (by omega)

/-- R141: in 64-bit mode BUILD completes without error exactly up to N = 7132. -/
theorem execBuild_width64_iff {s t : State} (h : exec .build s = .next t) (h2 : 2 ≤ s.n.toNat)
    (hn : s.n.toNat ≤ s.params.nmax) (hw : s.config.width64 = true) :
    t.status.built = true ∧ t.counters.cmdcnt = s.counters.cmdcnt + 1 ↔ s.n.toNat ≤ 7132 := by
  have hlimit := pow_five_lt_iff (bound := 2 ^ 64) (last := 7131) (by decide) (by decide) (s.n.toNat - 1)
  by_cases hle : s.n.toNat ≤ 7132
  · have hcheck := (buildCheck_eq_none s.params.nmax s.n.toNat s.config.width64).mpr ⟨h2, hn, fun _ => by omega⟩
    cases (execBuild_of_passed hcheck).symm.trans h
    exact iff_of_true ⟨rfl, rfl⟩ hle
  · have hfail : 2 ^ 64 - 1 < (s.n.toNat - 1) ^ 5 := by omega
    cases (execBuild_of_failed (hw ▸ buildCheck_width h2 hn hfail)).symm.trans h
    refine iff_of_false ?_ hle
    rintro ⟨-, hcount⟩
    simp at hcount

/-- Settles O21: 50859008 and 7131 are the last numbers whose fifth power is below 2^128 and 2^64. -/
theorem widthThresholdsAreExact : Obligations.WidthThresholdsAreExact := by
  intro rd rs1 s
  constructor
  · obtain ⟨t, hrun, hwrote, -⟩ := execPow5_writesRegister rd rs1 s
    obtain ⟨-, hv, -⟩ := hwrote.v_readBack
    refine ⟨t, hrun, fun hw => ?_, fun hw => ?_, ?_⟩
    · rw [hv, ← Bool.not_eq_true, powOverflow_iff, hw, Nat.not_le]
      exact pow_five_lt_iff (by decide) (by decide) _
    · rw [hv, ← Bool.not_eq_true, powOverflow_iff, hw, Nat.not_le, opnd_true_toNat]
      exact pow_five_lt_iff (by decide) (by decide) _
    · rw [hv, powOverflow_iff]
      exact pow_five_overflows_iff (opnd_lt _ _)
  · obtain ⟨_, t, hbuild⟩ := exec_writesStatus .build s
    exact ⟨t, hbuild.run, execBuild_width64_iff hbuild.run⟩

end Sys2Proof.Machine
end

section
/-! PROOFS. The table BUILD leaves (41_powertable.md R140, R143). The one idea: below N every entry is a fifth power
that fits in w bits, and the keys in FB are computed from those same entries, so BUILD leaves a valid table, a rebuild
of a valid table writes what stands there, and the entries increase as fifth powers do. -/

namespace Sys2Proof.Machine

/-! ### The state BUILD leaves -/

/-- R140: the state after a BUILD that passes its checks. -/
def State.afterBuild (s : State) : State :=
  (((s.setTables (builtTable s.config.width64 s.n.toNat s.pt) (builtFilter s.config.width64 s.n.toNat)).setCursor
    0).updStatus (·.setBuilt true)).succeed

theorem execBuild_eq_afterBuild {s : State} (h : buildCheck s.params.nmax s.n.toNat s.config.width64 = none) :
    exec .build s = .next s.afterBuild := execBuild_of_passed h

theorem State.ptRead_afterBuild_lt {s : State} {i : Nat} (h : i < s.n.toNat) :
    s.afterBuild.ptRead i = tableEntry s.config.width64 i := builtTable_getD_lt s.config.width64 s.pt h _

theorem State.ptRead_afterBuild_ge {s : State} {i : Nat} (h : s.n.toNat ≤ i) : s.afterBuild.ptRead i = s.ptRead i :=
  builtTable_getD_ge s.config.width64 s.pt h _

/-- R140: FB holds exactly the keys of the entries below N. -/
theorem State.filterBit_afterBuild (s : State) (key : BitVec 16) :
    filterBit s.afterBuild.fb key = true ↔ ∃ i, i < s.n.toNat ∧ fold16 (s.afterBuild.ptRead i) = key :=
  (filterBit_builtFilter s.config.width64 s.n.toNat key).trans
    (exists_congr fun _ => and_congr_right fun hi => by rw [State.ptRead_afterBuild_lt hi])

theorem State.completedOk_afterBuild (s : State) :
    CompletedOk s.counters { s.status with built := true } s s.afterBuild := completedOk_build s _ _

/-! ### Fifth powers fit in w bits (R141) -/

/-- R141: with NMAX within its legal range, BUILD's checks leave no entry of 2^w or more. -/
theorem pow_five_lt_of_buildCheck {nmax n : Nat} {width64 : Bool} (hmax : nmax ≤ 2 ^ 25)
    (h : buildCheck nmax n width64 = none) {i : Nat} (hi : i < n) : i ^ 5 < 2 ^ widthBits width64 := by
  obtain ⟨-, hn, hw⟩ := (buildCheck_eq_none nmax n width64).mp h
  cases width64 with
  | false =>
    calc i ^ 5 < (2 ^ 25) ^ 5 := Nat.pow_lt_pow_left (by omega) (by decide)
      _ ≤ 2 ^ 128 := by decide
  | true =>
    calc i ^ 5 ≤ (n - 1) ^ 5 := Nat.pow_le_pow_left (by omega) 5
      _ < 2 ^ 64 := Nat.lt_of_le_pred (by decide) (hw rfl)

theorem nmax_le_of_legal {nmax epxBase : Nat} (h : Config.legal nmax epxBase = true) : nmax ≤ 2 ^ 25 := by
  simp only [Config.legal, Bool.and_eq_true, decide_eq_true_eq] at h
  exact h.1.2

/-- R42 item 2, R143: a BUILD that passes its checks leaves a valid table. -/
theorem tableValid_afterBuild {s : State} (hp : Config.legal s.params.nmax s.params.epxBase = true)
    (h : buildCheck s.params.nmax s.n.toNat s.config.width64 = none) : TableValid s.afterBuild where
  nLow := ((buildCheck_eq_none _ _ _).mp h).1
  nHigh := ((buildCheck_eq_none _ _ _).mp h).2.1
  writtenTo := (builtTable_length s.config.width64 s.n.toNat s.pt).symm ▸ Nat.le_max_left _ _
  power := fun i (hi : i < s.n.toNat) => by
    have hfits := pow_five_lt_of_buildCheck (nmax_le_of_legal hp) h hi
    rw [State.ptRead_afterBuild_lt hi]
    exact ⟨tableEntry_toNat _ hfits, hfits⟩
  filter := s.filterBit_afterBuild
  cursor := Nat.zero_le _

/-- Settles O27: what BUILD leaves is a valid table (`tableValid_afterBuild`), and it writes no entry from N on. -/
theorem buildBuildsTableAndFilter : Obligations.BuildBuildsTableAndFilter := by
  intro s hp h2 hn hw
  have hcheck := (buildCheck_eq_none _ _ _).mpr ⟨h2, hn, hw⟩
  have hvalid := tableValid_afterBuild hp hcheck
  exact ⟨_, execBuild_eq_afterBuild hcheck, hvalid.power, fun i hi => State.ptRead_afterBuild_ge hi, hvalid.filter,
    rfl, rfl, rfl, s.completedOk_afterBuild⟩

/-! ### A rebuild of a valid table (R140) -/

theorem TableValid.buildCheck_eq_none {s : State} (hv : TableValid s) :
    buildCheck s.params.nmax s.n.toNat s.config.width64 = none := by
  have hlow := hv.nLow
  refine (Machine.buildCheck_eq_none _ _ _).mpr ⟨hlow, hv.nHigh, fun hw => ?_⟩
  have hlast := (hv.power (s.n.toNat - 1) (by omega)).2
  rw [hw] at hlast
  exact Nat.le_pred_of_lt hlast

/-- R143: an entry of a valid table is what BUILD writes there. -/
theorem TableValid.ptRead_eq_tableEntry {s : State} (hv : TableValid s) {i : Nat} (hi : i < s.n.toNat) :
    s.ptRead i = tableEntry s.config.width64 i := by
  obtain ⟨hpower, hfits⟩ := hv.power i hi
  exact BitVec.eq_of_toNat_eq (hpower.trans (tableEntry_toNat _ hfits).symm)

theorem TableValid.tablesKept_afterBuild {s : State} (hv : TableValid s) : TablesKept s s.afterBuild := by
  have hpt : ∀ i, s.afterBuild.ptRead i = s.ptRead i := fun i => by
    rcases Nat.lt_or_ge i s.n.toNat with hi | hi
    · rw [State.ptRead_afterBuild_lt hi, hv.ptRead_eq_tableEntry hi]
    · exact State.ptRead_afterBuild_ge hi
  refine ⟨hpt, fun key => ?_⟩
  rw [Bool.eq_iff_iff, s.filterBit_afterBuild, hv.filter]
  simp only [hpt]

/-- Settles O29: a valid table passes BUILD's checks, and below N it already holds what BUILD writes. -/
theorem rebuildGivesTheSameTables : Obligations.RebuildGivesTheSameTables :=
  fun s hv => ⟨_, execBuild_eq_afterBuild hv.buildCheck_eq_none, hv.tablesKept_afterBuild, rfl, rfl,
    s.completedOk_afterBuild⟩

/-- R42 item 2: whether the table is valid depends on no other field of the state, and CURSOR may move up to N. -/
theorem TableValid.congr {s t : State} (hv : TableValid s) (hc : t.cursor.toNat ≤ s.n.toNat)
    (hn : t.n = s.n := by rfl) (hpt : t.pt = s.pt := by rfl) (hfb : t.fb = s.fb := by rfl)
    (hw : t.config.width64 = s.config.width64 := by rfl) (hp : t.params = s.params := by rfl) : TableValid t := by
  have hread : t.ptRead = s.ptRead := by funext i; rw [State.ptRead, hpt, State.ptRead]
  exact ⟨hn ▸ hv.nLow, hn ▸ hp ▸ hv.nHigh, hn ▸ hpt ▸ hv.writtenTo, hn ▸ hread ▸ hw ▸ hv.power,
    hn ▸ hread ▸ hfb ▸ hv.filter, hn ▸ hc⟩

/-! ### The entries increase (R143) -/

theorem TableValid.ptRead_lt {s : State} (hv : TableValid s) {i j : Nat} (hij : i < j) (hj : j < s.n.toNat) :
    (s.ptRead i).toNat < (s.ptRead j).toNat := by
  rw [(hv.power i (hij.trans hj)).1, (hv.power j hj).1]
  exact Nat.pow_lt_pow_left hij (by decide)

/-- R143: a value has at most one base. -/
theorem TableValid.isBase_unique {s : State} (hv : TableValid s) {v : Wide} {i j : Nat} (hi : s.IsBase v i)
    (hj : s.IsBase v j) : i = j := by
  obtain ⟨hin, rfl⟩ := hi
  obtain ⟨hjn, he⟩ := hj
  rcases Nat.lt_trichotomy i j with h | h | h
  · exact absurd (he ▸ hv.ptRead_lt h hjn) (lt_irrefl _)
  · exact h
  · exact absurd (he ▸ hv.ptRead_lt h hin) (lt_irrefl _)

/-- Settles O30: fifth powers increase, and LDP reads the entry. -/
theorem builtTableStrictlyIncreases : Obligations.BuiltTableStrictlyIncreases := by
  intro s hb hv
  have hlow := hv.nLow
  refine ⟨fun i j hij hj => hv.ptRead_lt hij hj, fun v i j hi hj => hv.isBase_unique hi hj, ?_, ?_, fun rd rs1 hn => ?_⟩
  · exact BitVec.eq_of_toNat_eq (hv.power 0 (by omega)).1
  · exact BitVec.eq_of_toNat_eq (hv.power 1 (by omega)).1
  · obtain ⟨t, hrun, hwrote, -⟩ := execLdp_writesRegister (rd := rd) hb hn
    exact ⟨t, hrun, by rw [hwrote.value, (hv.power _ hn).1]⟩

end Sys2Proof.Machine
end

section
/-! PROOFS. LOOKUP over a valid table (42_membership.md R162 to R164). The one idea: a value that is an entry passes
the filter and has one base, so each strategy either hits at that base or misses, and SCAN misses only a base below
CURSOR. -/

namespace Sys2Proof.Machine

/-! ### The filter and the scan over a valid table -/

/-- R163: an entry passes the filter. -/
theorem TableValid.filterBit_of_isBase {s : State} (hv : TableValid s) {v : Wide} {i : Nat} (hi : s.IsBase v i) :
    filterBit s.fb (fold16 v) = true :=
  (hv.filter _).mpr ⟨i, hi.1, congrArg fold16 hi.2⟩

theorem State.ScanStopsAt.le_n {s : State} {v : Wide} {c : Nat} (h : s.ScanStopsAt v c)
    (hc : s.cursor.toNat ≤ s.n.toNat) : c ≤ s.n.toNat := by
  obtain ⟨hle, hbefore, -⟩ := h
  by_contra hn
  exact absurd (hbefore s.n.toNat hc (by omega)).1 (lt_irrefl _)

theorem State.scanEnd_le_n {s : State} (v : Wide) (hc : s.cursor.toNat ≤ s.n.toNat) : s.scanEnd v ≤ s.n.toNat :=
  (scanStopsAt_scanStop s v).le_n hc

/-- R162: the scan of an increasing table stops at the base of `v`, if that is at or above CURSOR. -/
theorem TableValid.eq_scanEnd_of_isBase {s : State} (hv : TableValid s) {v : Wide} {j : Nat} (hj : s.IsBase v j)
    (hc : s.cursor.toNat ≤ j) : j = s.scanEnd v := by
  obtain ⟨-, hbefore, hat⟩ := scanStopsAt_scanStop s v
  obtain ⟨hjn, rfl⟩ := hj
  rcases Nat.lt_trichotomy j (s.scanEnd (s.ptRead j)) with h | h | h
  · exact absurd (hbefore j hc h).2 (lt_irrefl _)
  · exact h
  · exact absurd (hv.ptRead_lt h hjn) (Nat.not_lt.mpr (hat (h.trans hjn)))

theorem State.cursor_le_scanEnd (s : State) (v : Wide) : s.cursor.toNat ≤ s.scanEnd v := (scanStopsAt_scanStop s v).1

/-! ### What a LOOKUP answers -/

/-- R161: `t` says a hit at the base `j`. -/
def HitAt (rd : Reg) (j : Nat) (t : State) : Prop := t.status.hit = true ∧ t.x rd = BitVec.ofNat 128 j

/-- R161: `t` says a miss. -/
def Missed (rd : Reg) (t : State) : Prop := t.status.hit = false ∧ t.x rd = BitVec.allOnes 128

theorem Wrote.hitAt {rd : Reg} {j : Nat} {c : Half} {k : Counters} {st : Status} {f : Bool} {s t : State}
    (h : Wrote rd (BitVec.ofNat 128 j) c k { st with fh := f, hit := true } s t) : HitAt rd j t :=
  ⟨by rw [h.completed.status], h.value⟩

theorem Wrote.missed {rd : Reg} {c : Half} {k : Counters} {st : Status} {f : Bool} {s t : State}
    (h : Wrote rd (BitVec.allOnes 128) c k { st with fh := f, hit := false } s t) : Missed rd t :=
  ⟨by rw [h.completed.status], h.value⟩

/-- R163: HASH over a valid table hits at the base of the value, and misses when there is none. -/
theorem execLookup_hash (rd : Reg) {rs1 : Reg} {s : State} (hb : s.status.built = true) (hv : TableValid s)
    (hs : s.config.strategy = .hash) :
    ∃ t, exec (.lookup rd rs1) s = .next t ∧ t.cursor = s.cursor ∧
      ((∃ j, s.IsBase (s.x rs1) j ∧ HitAt rd j t) ∨ ((∀ j, ¬ s.IsBase (s.x rs1) j) ∧ Missed rd t)) := by
  by_cases hex : ∃ j, s.IsBase (s.x rs1) j
  · obtain ⟨j, hj⟩ := hex
    have hmin : ∀ k, k < j → ¬ s.IsBase (s.x rs1) k := fun k hk hbase => hk.ne (hv.isBase_unique hbase hj)
    obtain ⟨t, hrun, -, hwrote⟩ :=
      looksUp_hit rd hb (hv.filterBit_of_isBase hj) (confirm_hash_of_smallest hs hj hmin)
    exact ⟨t, hrun, hwrote.cursor, .inl ⟨j, hj, hwrote.hitAt⟩⟩
  · have hnone : ∀ j, ¬ s.IsBase (s.x rs1) j := fun j hj => hex ⟨j, hj⟩
    cases hf : filterBit s.fb (fold16 (s.x rs1)) with
    | false =>
      obtain ⟨t, hrun, -, hwrote⟩ := looksUp_rejected rd hb hf
      exact ⟨t, hrun, hwrote.cursor, .inr ⟨hnone, hwrote.missed⟩⟩
    | true =>
      obtain ⟨t, hrun, -, hwrote⟩ := looksUp_miss rd hb hf (confirm_hash_of_none hs hnone)
      exact ⟨t, hrun, hwrote.cursor, .inr ⟨hnone, hwrote.missed⟩⟩

/-- R162: SCAN over a valid table, once the filter has passed: CURSOR ends where the scan stops, and the base of the
value is found if it is at or above CURSOR. -/
theorem execLookup_scan_of_passed (rd : Reg) {rs1 : Reg} {s : State} (hb : s.status.built = true) (hv : TableValid s)
    (hs : s.config.strategy = .scan) (hf : filterBit s.fb (fold16 (s.x rs1)) = true) :
    ∃ t, exec (.lookup rd rs1) s = .next t ∧ t.cursor.toNat = s.scanEnd (s.x rs1) ∧
      ((∃ j, s.IsBase (s.x rs1) j ∧ s.cursor.toNat ≤ j ∧ HitAt rd j t) ∨
        ((∀ j, s.IsBase (s.x rs1) j → j < s.cursor.toNat) ∧ Missed rd t)) := by
  have hcursor := toNat_ofNat_of_le_toNat (State.scanEnd_le_n (s.x rs1) hv.cursor)
  by_cases hbase : s.IsBase (s.x rs1) (s.scanEnd (s.x rs1))
  · obtain ⟨t, hrun, -, hwrote⟩ := looksUp_hit rd hb hf (confirm_scan_of_base hs hbase)
    exact ⟨t, hrun, hwrote.cursor ▸ hcursor, .inl ⟨_, hbase, s.cursor_le_scanEnd _, hwrote.hitAt⟩⟩
  · obtain ⟨t, hrun, -, hwrote⟩ := looksUp_miss rd hb hf (confirm_scan_of_not_base hs hbase)
    have hbelow : ∀ j, s.IsBase (s.x rs1) j → j < s.cursor.toNat := fun j hj => by
      by_contra hge
      exact hbase (hv.eq_scanEnd_of_isBase hj (Nat.not_lt.mp hge) ▸ hj)
    exact ⟨t, hrun, hwrote.cursor ▸ hcursor, .inr ⟨hbelow, hwrote.missed⟩⟩

/-- R163: SCAN over a valid table hits at the base of the value if it is at or above CURSOR, and otherwise misses. -/
theorem execLookup_scan (rd : Reg) {rs1 : Reg} {s : State} (hb : s.status.built = true) (hv : TableValid s)
    (hs : s.config.strategy = .scan) :
    ∃ t, exec (.lookup rd rs1) s = .next t ∧
      ((∃ j, s.IsBase (s.x rs1) j ∧ s.cursor.toNat ≤ j ∧ HitAt rd j t) ∨
        ((∀ j, s.IsBase (s.x rs1) j → j < s.cursor.toNat) ∧ Missed rd t)) := by
  cases hf : filterBit s.fb (fold16 (s.x rs1)) with
  | false =>
    obtain ⟨t, hrun, -, hwrote⟩ := looksUp_rejected rd hb hf
    refine ⟨t, hrun, .inr ⟨fun j hj => ?_, hwrote.missed⟩⟩
    exact absurd (hv.filterBit_of_isBase hj) (by simp [hf])
  | true =>
    obtain ⟨t, hrun, -, hanswer⟩ := execLookup_scan_of_passed rd hb hv hs hf
    exact ⟨t, hrun, hanswer⟩

/-! ### The obligations -/

/-- Two indices below N that read the same in rd are the same. -/
theorem eq_of_ofNat128_eq {n : Half} {i j : Nat} (hi : i < n.toNat) (hj : j < n.toNat)
    (h : BitVec.ofNat 128 i = BitVec.ofNat 128 j) : i = j := by
  have hn := n.isLt
  have he := congrArg BitVec.toNat h
  rwa [BitVec.toNat_ofNat, BitVec.toNat_ofNat, Nat.mod_eq_of_lt (by omega), Nat.mod_eq_of_lt (by omega)] at he

/-- Settles O33: the scan of an increasing table stops at the one base there can be (`execLookup_scan_of_passed`). -/
theorem scanConfirmsFromTheCursorOn : Obligations.ScanConfirmsFromTheCursorOn := by
  intro rd rs1 s hb hv hs hf
  obtain ⟨t, hrun, hcursor, hanswer⟩ := execLookup_scan_of_passed rd hb hv hs hf
  have hend := State.scanEnd_le_n (s.x rs1) hv.cursor
  obtain ⟨hfrom, hbefore, hat⟩ := scanStopsAt_scanStop s (s.x rs1)
  refine ⟨t, hrun, fun j => ?_, hcursor ▸ hfrom, hcursor ▸ hend, ?_, hcursor ▸ hbefore⟩
  · rcases hanswer with ⟨i, hi, hci, hhit, hx⟩ | ⟨hbelow, hhit, -⟩
    · rw [hx]
      constructor
      · rintro ⟨-, he, hj⟩
        exact eq_of_ofNat128_eq hi.1 hj he ▸ ⟨hi, hci⟩
      · rintro ⟨hj, -⟩
        exact ⟨hhit, hv.isBase_unique hi hj ▸ rfl, hj.1⟩
    · rw [hhit]
      refine iff_of_false (fun h => absurd h.1 (by decide)) ?_
      rintro ⟨hj, hcj⟩
      exact absurd (hbelow j hj) (Nat.not_lt.mpr hcj)
  · rw [hcursor]
    exact (Nat.eq_or_lt_of_le hend).imp_right hat

/-- Settles O34: HASH misses only where there is no base, SCAN only where there is none at or above CURSOR. -/
theorem lookupIsSound : Obligations.LookupIsSound := by
  intro rd rs1 s hb hv
  refine ⟨fun i hi => hv.filterBit_of_isBase ⟨hi, rfl⟩, fun hs => ?_, fun hs => ?_⟩
  · obtain ⟨t, hrun, -, ⟨j, hj, hhit, hx⟩ | ⟨hnone, hhit, -⟩⟩ := execLookup_hash rd hb hv hs
    · exact ⟨t, hrun, iff_of_true hhit ⟨j, hj⟩, fun i hi => hv.isBase_unique hj hi ▸ hx⟩
    · exact ⟨t, hrun, iff_of_false (by simp [hhit]) (fun ⟨i, hi⟩ => hnone i hi), fun i hi => absurd hi (hnone i)⟩
  · obtain ⟨t, hrun, ⟨j, hj, -, hhit, hx⟩ | ⟨hbelow, hhit, -⟩⟩ := execLookup_scan rd hb hv hs
    · exact ⟨t, hrun, fun _ => ⟨j, hj, hx⟩, fun _ _ _ => hhit⟩
    · exact ⟨t, hrun, fun h => absurd h (by simp [hhit]), fun i hi hc => absurd (hbelow i hi) (Nat.not_lt.mpr hc)⟩

/-- R29: the same state with the other field of CONFIG as it is and STRATEGY as given. -/
def State.withStrategy (s : State) (strategy : Strategy) : State :=
  { s with config := { s.config with strategy := strategy } }

theorem TableValid.withStrategy {s : State} (hv : TableValid s) (strategy : Strategy) :
    TableValid (s.withStrategy strategy) := hv.congr hv.cursor

/-- Settles O35: with CURSOR not above the base both strategies hit at it, or both miss. -/
theorem hashAndScanAgree : Obligations.HashAndScanAgree := by
  intro rd rs1 s hb hv hc
  obtain ⟨t, hrun, hcursor, hanswer⟩ :=
    execLookup_hash rd (rs1 := rs1) (s := s.withStrategy .hash) hb (hv.withStrategy .hash) rfl
  obtain ⟨t', hrun', hanswer'⟩ :=
    execLookup_scan rd (rs1 := rs1) (s := s.withStrategy .scan) hb (hv.withStrategy .scan) rfl
  refine ⟨t, t', hrun, hrun', ?_⟩
  rcases hanswer with ⟨i, hi, hhit, hx⟩ | ⟨hnone, hhit, hx⟩
  · rcases hanswer' with ⟨j, hj, -, hhit', hx'⟩ | ⟨hbelow, -⟩
    · obtain rfl : i = j := hv.isBase_unique hi hj
      exact ⟨hhit.trans hhit'.symm, hx.trans hx'.symm, hcursor⟩
    · exact absurd (hbelow i hi) (Nat.not_lt.mpr (hc i hi))
  · rcases hanswer' with ⟨j, hj, -⟩ | ⟨-, hhit', hx'⟩
    · exact absurd hj (hnone j)
    · exact ⟨hhit.trans hhit'.symm, hx.trans hx'.symm, hcursor⟩

end Sys2Proof.Machine
end

section
/-! PROOFS. Every command (20_memory.md R65, 60_exceptions.md R200 to R203, 10_state.md R22). The one idea: what a
command can do is said once (`exec_ran`): it answers a next state, records the reads its pseudocode makes, and either
completes or raises one of the causes R202 lists for it; the statements about every command, and about every step,
only cite it. -/

namespace Sys2Proof.Machine

/-! ### What a command can do -/

/-- R202: the errors each command can raise once it has decoded. -/
def raises : Instr → List Cause
  | .build => [.cfgNSmall, .cfgNLarge, .cfgWidth]
  | .ldp _ _ => [.notBuilt, .indexRange]
  | .lookup _ _ | .fprobe _ => [.notBuilt]
  | .setcur _ => [.notBuilt, .cursorRange]
  | .nop | .li _ _ | .mov _ _ | .add _ _ _ | .mul _ _ _ | .mulll _ _ _ | .pow5 _ _ | .cmp _ _
  | .fold16 _ _ | .fold32 _ _ | .fold64 _ _ => []

/-- R22: the record of UNWRITTEN_READ after a command. -/
def State.recordAfter (s : State) (i : Instr) : Bool :=
  if checksBuilt i = true ∧ s.status.built = false then s.unwrittenRead else s.recordAfterReads (sources i)

/-- R65, R203: a command completed without error, or raised one of its causes and changed nothing but its record. -/
inductive CommandEnds (i : Instr) (s t : State) : Prop
  | completed (k : Counters) (st : Status) (ok : CompletedOk k st s t) (err : st.err = s.status.err)
      (ovr : st.ovr = s.status.ovr)
  | failed (cause : Cause) (mem : cause ∈ raises i)
      (eq : t = ({ s with unwrittenRead := s.recordAfter i } : State).raiseError cause)

/-- The command `i` leaves `s` as `t`: its reads are recorded (R22), it completed or failed (R65, R203), and CURSOR
did not come to be above N. -/
structure Ran (i : Instr) (s t : State) : Prop where
  run : exec i s = .next t
  record : t.unwrittenRead = s.recordAfter i
  ends : CommandEnds i s t
  cursor : s.cursor.toNat ≤ s.n.toNat → t.cursor.toNat ≤ s.n.toNat

theorem State.recordAfter_of_notBuilt {s : State} {i : Instr} (hc : checksBuilt i = true)
    (hb : s.status.built = false) : s.recordAfter i = s.unwrittenRead := if_pos ⟨hc, hb⟩

theorem State.recordAfter_of_built {s : State} {i : Instr} (h : checksBuilt i = true → s.status.built = true) :
    s.recordAfter i = s.recordAfterReads (sources i) :=
  if_neg fun ⟨hc, hb⟩ => by simp [h hc] at hb

/-! ### The ways to end -/

theorem ran_of_raiseError {i : Instr} {s : State} {cause : Cause} (hmem : cause ∈ raises i)
    (h : exec i s = .next (({ s with unwrittenRead := s.recordAfter i } : State).raiseError cause)) :
    ∃ t, Ran i s t :=
  ⟨_, h, rfl, .failed cause hmem rfl, id⟩

theorem ran_of_writesRegister {i : Instr} {rd : Reg} {v : Wide} {st : Status} {s : State}
    (hb : checksBuilt i = true → s.status.built = true) (h : ∃ t, WritesRegister i rd v st s t)
    (herr : st.err = s.status.err := by rfl) (hovr : st.ovr = s.status.ovr := by rfl) : ∃ t, Ran i s t := by
  obtain ⟨t, hrun, hwrote, hrecord⟩ := h
  exact ⟨t, hrun, hrecord.trans (State.recordAfter_of_built hb).symm, .completed _ _ hwrote.completed herr hovr,
    hwrote.cursor ▸ id⟩

theorem ran_of_wroteNoRegister {i : Instr} {c : Half} {st : Status} {s t : State}
    (hb : checksBuilt i = true → s.status.built = true) (hrun : exec i s = .next t) (hwrote : WroteNoRegister c st s t)
    (hrecord : t.unwrittenRead = s.recordAfterReads (sources i))
    (hc : s.cursor.toNat ≤ s.n.toNat → c.toNat ≤ s.n.toNat := by exact id)
    (herr : st.err = s.status.err := by rfl) (hovr : st.ovr = s.status.ovr := by rfl) : ∃ t, Ran i s t :=
  ⟨t, hrun, hrecord.trans (State.recordAfter_of_built hb).symm, .completed _ _ hwrote.completed herr hovr,
    hwrote.cursor ▸ hc⟩

theorem ran_of_looksUp {rd rs1 : Reg} {v : Wide} {c : Half} {k : Counters} {st : Status} {s : State}
    (hb : s.status.built = true) (h : ∃ t, LooksUp rd rs1 v c k st s t)
    (hc : s.cursor.toNat ≤ s.n.toNat → c.toNat ≤ s.n.toNat)
    (herr : st.err = s.status.err := by rfl) (hovr : st.ovr = s.status.ovr := by rfl) :
    ∃ t, Ran (.lookup rd rs1) s t := by
  obtain ⟨t, hrun, hrecord, hwrote⟩ := h
  exact ⟨t, hrun, hrecord.trans (State.recordAfter_of_built (i := .lookup rd rs1) fun _ => hb).symm,
    .completed _ _ hwrote.completed herr hovr, hwrote.cursor ▸ hc⟩

/-! ### The commands that can fail -/

theorem buildCheck_mem_raises {nmax n : Nat} {width64 : Bool} {cause : Cause}
    (h : buildCheck nmax n width64 = some cause) : cause ∈ raises .build := by
  unfold buildCheck at h
  split_ifs at h <;> cases h <;> decide

theorem build_ran (s : State) : ∃ t, Ran .build s t := by
  cases hcheck : buildCheck s.params.nmax s.n.toNat s.config.width64 with
  | some cause =>
    have hrecord : s.recordAfter .build = s.unwrittenRead :=
      (State.recordAfter_of_built fun h => absurd h (by decide)).trans s.recordAfterReads_nil.symm
    exact ran_of_raiseError (buildCheck_mem_raises hcheck) (hrecord ▸ execBuild_of_failed hcheck)
  | none =>
    exact ⟨_, execBuild_eq_afterBuild hcheck, s.recordAfterReads_nil, .completed _ _ s.completedOk_afterBuild rfl rfl,
      fun _ => Nat.zero_le _⟩

theorem ldp_ran (rd rs1 : Reg) {s : State} (hb : s.status.built = true) : ∃ t, Ran (.ldp rd rs1) s t := by
  rcases Nat.lt_or_ge (s.x rs1).toNat s.n.toNat with hn | hn
  · exact ran_of_writesRegister (fun _ => hb) (execLdp_writesRegister hb hn)
  · have hrecord : s.recordAfter (.ldp rd rs1) = (s.unwrittenRead || !s.written rs1) :=
      (State.recordAfter_of_built fun _ => hb).trans (s.recordAfterReads_one rs1).symm
    exact ran_of_raiseError (cause := .indexRange) (by simp [raises]) (hrecord ▸ execLdp_indexRange hb hn)

/-- R161: the confirmation stage leaves CURSOR where it was, or where the scan stops. -/
theorem confirm_cursor_le {s : State} (v : Wide) (hc : s.cursor.toNat ≤ s.n.toNat) :
    (confirm s v).cursor.toNat ≤ s.n.toNat := by
  have hend := State.scanEnd_le_n v hc
  unfold confirm
  split
  · exact hc
  · exact (toNat_ofNat_of_le_toNat hend).le.trans hend

theorem lookup_ran (rd rs1 : Reg) {s : State} (hb : s.status.built = true) : ∃ t, Ran (.lookup rd rs1) s t := by
  cases hf : filterBit s.fb (fold16 (s.x rs1)) with
  | false => exact ran_of_looksUp hb (looksUp_rejected rd hb hf) id
  | true =>
    have hc := confirm_cursor_le (s := s) (s.x rs1)
    rcases ha : confirm s (s.x rs1) with ⟨_ | j, c⟩
    · exact ran_of_looksUp hb (looksUp_miss rd hb hf ha) (by rwa [ha] at hc)
    · exact ran_of_looksUp hb (looksUp_hit rd hb hf ha) (by rwa [ha] at hc)

theorem fprobe_ran (rs1 : Reg) {s : State} (hb : s.status.built = true) : ∃ t, Ran (.fprobe rs1) s t :=
  ran_of_wroteNoRegister (fun _ => hb) (execFprobe_of_built hb)
    (wroteNoRegister_succeed s _ (·.setFh (filterBit s.fb (fold16 (s.x rs1))))) (s.recordAfterReads_one rs1)

theorem setcur_ran (rs1 : Reg) {s : State} (hb : s.status.built = true) : ∃ t, Ran (.setcur rs1) s t := by
  rcases Nat.lt_or_ge s.n.toNat (s.x rs1).toNat with hn | hn
  · have hrecord : s.recordAfter (.setcur rs1) = (s.unwrittenRead || !s.written rs1) :=
      (State.recordAfter_of_built fun _ => hb).trans (s.recordAfterReads_one rs1).symm
    exact ran_of_raiseError (cause := .cursorRange) (by simp [raises]) (hrecord ▸ execSetcur_cursorRange hb hn)
  · exact ran_of_wroteNoRegister (fun _ => hb) (execSetcur_inRange hb hn) (wroteNoRegister_setCursor_succeed s _ _)
      (s.recordAfterReads_one rs1) (fun _ => (toNat_ofNat_of_le_toNat hn).le.trans hn)

/-! ### Every command -/

theorem notBuilt_mem_raises {i : Instr} (hc : checksBuilt i = true) : .notBuilt ∈ raises i := by
  cases i with
  | ldp | lookup | fprobe | setcur => simp [raises]
  | _ => cases hc

theorem exec_ran (i : Instr) (s : State) : ∃ t, Ran i s t := by
  by_cases hnb : checksBuilt i = true ∧ s.status.built = false
  · obtain ⟨hc, hb⟩ := hnb
    exact ran_of_raiseError (notBuilt_mem_raises hc) (State.recordAfter_of_notBuilt hc hb ▸ exec_notBuilt hc hb)
  · have hb : checksBuilt i = true → s.status.built = true := fun hc => by simpa [hc] using hnb
    cases i with
    | nop => exact ran_of_wroteNoRegister hb rfl (wroteNoRegister_succeed s s.unwrittenRead id) s.recordAfterReads_nil
    | li rd imm17 => exact ran_of_writesRegister hb (execLi_writesRegister rd imm17 s)
    | mov rd rs1 => exact ran_of_writesRegister hb (execMov_writesRegister rd rs1 s)
    | add rd rs1 rs2 => exact ran_of_writesRegister hb (execAdd_writesRegister rd rs1 rs2 s)
    | mul rd rs1 rs2 => exact ran_of_writesRegister hb (execMul_writesRegister rd rs1 rs2 s)
    | mulll rd rs1 rs2 => exact ran_of_writesRegister hb (execMulll_writesRegister rd rs1 rs2 s)
    | pow5 rd rs1 => exact ran_of_writesRegister hb (execPow5_writesRegister rd rs1 s)
    | cmp rs1 rs2 =>
      exact ran_of_wroteNoRegister hb rfl (wroteNoRegister_succeed s _ (·.setCompare _ _))
        (s.recordAfterReads_two rs1 rs2)
    | fold16 rd rs1 => exact ran_of_writesRegister hb (execFold16_writesRegister rd rs1 s)
    | fold32 rd rs1 => exact ran_of_writesRegister hb (execFold32_writesRegister rd rs1 s)
    | fold64 rd rs1 => exact ran_of_writesRegister hb (execFold64_writesRegister rd rs1 s)
    | build => exact build_ran s
    | ldp rd rs1 => exact ldp_ran rd rs1 (hb rfl)
    | lookup rd rs1 => exact lookup_ran rd rs1 (hb rfl)
    | fprobe rs1 => exact fprobe_ran rs1 (hb rfl)
    | setcur rs1 => exact setcur_ran rs1 (hb rfl)

/-- The same of a run that is given. -/
theorem ran_of_exec {i : Instr} {s t : State} (h : exec i s = .next t) : Ran i s t := by
  obtain ⟨u, hran⟩ := exec_ran i s
  cases hran.run.symm.trans h
  exact hran

/-! ### The obligations -/

theorem ne_none_of_mem_raises {i : Instr} {cause : Cause} (h : cause ∈ raises i) : cause ≠ .none := by
  rintro rfl
  cases i <;> simp [raises] at h

/-- Settles O38: a command completes or raises one of its causes, and NONE is no cause. -/
theorem everyCommandCompletesOrFailsPrecisely : Obligations.EveryCommandCompletesOrFailsPrecisely := by
  intro i s word hp
  obtain ⟨t, hrun, -, hends, -⟩ := exec_ran i s
  refine ⟨t, hrun, ?_⟩
  cases hends with
  | completed k st ok err ovr =>
    obtain ⟨hidle, hcounters, hstatus, hrecord, hport⟩ := ok
    exact .inl ⟨hidle, by rw [hstatus], by rw [hstatus, ← err], by rw [hstatus, ← ovr], by rw [hcounters], hrecord,
      hport⟩
  | failed cause mem eq => exact .inr ⟨cause, ne_none_of_mem_raises mem, eq ▸ raiseError_afterReads_endedInError hp _ _⟩

/-- A command that sets ERR has raised one of its causes. -/
theorem ecause_mem_raises {i : Instr} {s t : State} (h : exec i s = .next t) (h0 : s.status.err = false)
    (h1 : t.status.err = true) : t.ecause ∈ raises i := by
  obtain ⟨-, -, hends, -⟩ := ran_of_exec h
  cases hends with
  | completed k st ok err ovr =>
    have hkept : t.status.err = s.status.err := by rw [ok.status, ← err]
    rw [hkept, h0] at h1
    cases h1
  | failed cause mem eq => exact eq ▸ mem

/-- Settles O39: R202's table is `raises`. -/
theorem eachErrorBelongsToItsCommand : Obligations.EachErrorBelongsToItsCommand := by
  intro i s t h h0 h1
  have hmem := ecause_mem_raises h h0 h1
  cases i with
  | build => exact .inl ⟨rfl, by simpa [raises] using hmem⟩
  | ldp rd rs1 => exact .inr (.inl ⟨rd, rs1, rfl, by simpa [raises] using hmem⟩)
  | lookup rd rs1 => exact .inr (.inr (.inl ⟨rd, rs1, rfl, by simpa [raises] using hmem⟩))
  | fprobe rs1 => exact .inr (.inr (.inr (.inl ⟨rs1, rfl, by simpa [raises] using hmem⟩)))
  | setcur rs1 => exact .inr (.inr (.inr (.inr ⟨rs1, rfl, by simpa [raises] using hmem⟩)))
  | _ => cases hmem

end Sys2Proof.Machine
end

section
/-! PROOFS. Host accesses (20_memory.md R51 to R60, 10_state.md R22). The one idea: of STATUS, PENDING, CMD, CONFIG, N
and CURSOR an access changes something in five ways only (`HostMoves`), so a statement about every access has these
five cases, and one for all the accesses that leave those alone. -/

namespace Sys2Proof.Machine

/-! ### What an access can change -/

/-- What a read, and a write of IRQEN, a counter, a W half or a read-only register, leaves alone; it may record
UNWRITTEN_READ, and never takes the record back (R22). -/
structure CoreKept (s t : State) : Prop where
  status : t.status = s.status
  pending : t.pending = s.pending
  cmd : t.cmd = s.cmd
  config : t.config = s.config
  n : t.n = s.n
  cursor : t.cursor = s.cursor
  record : s.unwrittenRead = true → t.unwrittenRead = true

/-- What an access of the host does to the block (R55 to R60, R64). -/
inductive HostMoves (s : State) : HostAccess → State → Prop
  | kept {a : HostAccess} {t : State} (h : CoreKept s t) : HostMoves s a t
  | dropped {a : HostAccess} : HostMoves s a s.drop
  | accepted {a : HostAccess} (v : Half) (idle : s.pending = none) (err : s.status.err = false) :
    HostMoves s a (s.accept (offeredWord v))
  | cleared (v : Half) :
    HostMoves s (.write (s.params.epxBase + 0x008) 8 v) (s.updStatus (·.writeOneToClear v))
  | configured (v : Half) (idle : s.pending = none) :
    HostMoves s (.write (s.params.epxBase + 0x020) 8 v) (s.setConfig v)
  | resized (v : Half) (idle : s.pending = none) :
    HostMoves s (.write (s.params.epxBase + 0x028) 8 v) (s.setN v)

theorem hostRead_coreKept (g : HostReg) (s : State) : CoreKept s (hostRead g s) := by
  have hnote : CoreKept s (s.noteHostRead g) := by
    cases g with
    | wLo | wHi => exact ⟨rfl, rfl, rfl, rfl, rfl, rfl, fun h => by simp [State.noteHostRead, h]⟩
    | _ => exact ⟨rfl, rfl, rfl, rfl, rfl, rfl, id⟩
  obtain ⟨hstatus, hpending, hcmd, hconfig, hn, hcursor, hrecord⟩ := hnote
  unfold hostRead
  split <;> exact ⟨hstatus, hpending, hcmd, hconfig, hn, hcursor, hrecord⟩

/-- R54: a register that is not reserved lies below offset 0x100. -/
theorem offset_lt_of_ne_reserved {off : Nat} (h : hostRegAt off ≠ .reserved) : off < 0x100 := by
  by_contra hge
  exact h (hostRegAt_reserved (.inr (Nat.not_lt.mp hge)))

/-- R54: the offsets of the three registers whose writes change STATUS otherwise than by OVR. -/
theorem offset_of_status_config_n : ∀ off, off < 0x100 →
    (hostRegAt off = .status → off = 0x008) ∧ (hostRegAt off = .config → off = 0x020) ∧
    (hostRegAt off = .n → off = 0x028) := by
  decide +kernel

theorem hostWrite_moves (off : Nat) (v : Half) (s : State) :
    HostMoves s (.write (s.params.epxBase + off) 8 v) (hostWrite (hostRegAt off) v s) := by
  cases hd : s.busy && droppedWhileBusy (hostRegAt off) with
  | true => simpa only [hostWrite, hd, if_true] using HostMoves.dropped
  | false =>
    have hidle : droppedWhileBusy (hostRegAt off) = true → s.pending = none := fun h => by
      by_contra hp
      simp [h, State.busy_of_pending hp] at hd
    simp only [hostWrite, hd, Bool.false_eq_true, if_false]
    have hoffset (h : hostRegAt off ≠ .reserved) := offset_of_status_config_n off (offset_lt_of_ne_reserved h)
    cases hg : hostRegAt off with
    | cmd =>
      cases he : s.status.err with
      | true => simpa only [hostWriteThrough, he, if_true] using HostMoves.dropped
      | false =>
        simpa only [hostWriteThrough, he, Bool.false_eq_true, if_false] using
          HostMoves.accepted v (hidle (by rw [hg]; rfl)) he
    | status =>
      obtain rfl : off = 0x008 := (hoffset (by simp [hg])).1 hg
      exact .cleared v
    | config =>
      obtain rfl : off = 0x020 := (hoffset (by simp [hg])).2.1 hg
      exact .configured v (hidle (by rw [hg]; rfl))
    | n =>
      obtain rfl : off = 0x028 := (hoffset (by simp [hg])).2.2 hg
      exact .resized v (hidle (by rw [hg]; rfl))
    | _ => exact .kept ⟨rfl, rfl, rfl, rfl, rfl, rfl, id⟩

/-- R51, R52: an access of the interface is 8 bytes wide, at an aligned offset of the window. -/
theorem wellFormed_offset {base : Nat} {a : HostAccess} (h : a.wellFormed base = true) :
    ∃ off, off < 4096 ∧ off % 8 = 0 ∧
      (a = .read (base + off) 8 ∨ ∃ v, a = .write (base + off) 8 v) := by
  simp only [HostAccess.wellFormed, HostAccess.inWindow, HostAccess.aligned, Bool.and_eq_true, decide_eq_true_eq] at h
  obtain ⟨⟨hlow, hhigh⟩, hsize, halign⟩ := h
  refine ⟨a.addr - base, (Nat.sub_lt_iff_lt_add' hlow).mpr hhigh, halign, ?_⟩
  rw [Nat.add_sub_cancel' hlow, ← hsize]
  cases a with
  | read => exact .inl rfl
  | write _ _ v => exact .inr ⟨v, rfl⟩

theorem hostAccess_moves {s : State} {a : HostAccess} (h : a.wellFormed s.params.epxBase = true) :
    HostMoves s a (hostAccess a s) := by
  obtain ⟨off, -, -, rfl | ⟨v, rfl⟩⟩ := wellFormed_offset h
  · exact .kept (hostRead_coreKept _ s)
  · simpa only [hostAccess, Nat.add_sub_cancel_left] using hostWrite_moves off v s

/-! ### Accesses while BUSY (R60) -/

/-- R60: the offsets whose writes are dropped while BUSY. -/
theorem droppedWhileBusy_hostRegAt : ∀ off, off < 0x100 →
    (off = 0x000 ∨ off = 0x020 ∨ off = 0x028 ∨ (0x040 ≤ off ∧ off < 0x060 ∧ off % 8 = 0) ∨
      (0x080 ≤ off ∧ off < 0x100 ∧ off % 8 = 0)) →
    droppedWhileBusy (hostRegAt off) = true := by
  decide +kernel

/-- R60: the offsets whose reads return any value while BUSY. -/
theorem drawnWhileBusy_hostRegAt : ∀ off, off < 0x100 →
    (off = 0x030 ∨ (0x040 ≤ off ∧ off < 0x060 ∧ off % 8 = 0) ∨ (0x080 ≤ off ∧ off < 0x100 ∧ off % 8 = 0)) →
    drawnWhileBusy (hostRegAt off) = true := by
  decide +kernel

/-- R60: a read that is not among those drawn returns the register's value at any time. -/
theorem step_hostReads_anyTime {off : Nat} (s : State) (hd : drawnWhileBusy (hostRegAt off) = false)
    (h1 : off < 4096 := by decide) (h2 : off % 8 = 0 := by decide) :
    step (s.hostReads off) =
      .next ((s.noteHostRead (hostRegAt off)).deliver (s.hostValue (hostRegAt off))) := by
  rw [step_hostReads h1 h2, hostRead, hd, Bool.and_false]
  rfl

/-- R60: while BUSY, a read among those drawn returns any value. -/
theorem step_hostReads_drawn {s : State} {off : Nat} (hp : s.pending ≠ none)
    (hd : drawnWhileBusy (hostRegAt off) = true) (h1 : off < 4096) (h2 : off % 8 = 0) :
    step (s.hostReads off) = .next (s.noteHostRead (hostRegAt off)).deliverAny := by
  rw [step_hostReads h1 h2, hostRead, hd, State.busy_of_pending hp]
  rfl

/-- A read that draws its value changes nothing of the block, and makes one draw. -/
theorem noteHostRead_deliverAny (s : State) (g : HostReg) :
    BlockKept s (s.noteHostRead g).deliverAny ∧
      (s.noteHostRead g).deliverAny.hostData = some (Config.busyRead s.draws) ∧
      (s.noteHostRead g).deliverAny.draws = s.draws + 1 := by
  cases g <;>
    exact ⟨⟨rfl, rfl, rfl, rfl, rfl, ⟨fun _ => rfl, fun _ => rfl⟩, ⟨rfl, rfl⟩, rfl, rfl, rfl, rfl, rfl, rfl⟩, rfl, rfl⟩

/-- Settles O46: which writes are dropped and which reads are drawn depends on the register alone. -/
theorem accessesWhileBusy : Obligations.AccessesWhileBusy := by
  intro s word off v hword
  have hp : s.pending ≠ none := by simp [hword]
  refine ⟨fun h => ?_, fun h => ?_, step_writeStatus s v, step_hostWrites_anyTime s v rfl,
    step_hostReads_anyTime s rfl, step_hostReads_anyTime s rfl, step_hostReads_anyTime s rfl,
    step_hostReads_anyTime s rfl, step_hostReads_anyTime s rfl, step_hostReads_anyTime s rfl,
    step_hostReads_anyTime s rfl, fun h => ?_⟩
  · exact step_hostWrites_dropped hp v (droppedWhileBusy_hostRegAt off (by omega) h) (by omega) (by omega)
  · rcases h with rfl | rfl | rfl | hreserved
    · exact step_hostWrites_anyTime s v rfl
    · exact step_hostWrites_anyTime s v rfl
    · exact step_hostWrites_anyTime s v rfl
    · exact step_writeReserved s v (by omega) (by omega)
  · exact ⟨_, step_hostReads_drawn hp (drawnWhileBusy_hostRegAt off (by omega) h) (by omega) (by omega),
      noteHostRead_deliverAny s _⟩

end Sys2Proof.Machine
end

section
/-! PROOFS. Steps (00_scope.md R5, 20_memory.md R51, R52, R65, 10_state.md R22, R26, R27, 70_reset_and_hazards.md
R262). The one idea: a step is an access of the host, the completion of a command or of an illegal word, an idle turn,
or a reset (`step_moves`), and what each of these can do is said already (`HostMoves`, `Ran`). -/

namespace Sys2Proof.Machine

/-! ### The step of each agent -/

theorem step_idle {s : State} (ht : s.turn = .block) (hp : s.pending = none) : step s = .next s.afterTurn := by
  simp [step, ht, turnStep, blockStep, State.fetch, hp]

theorem step_pending {s : State} {word : CommandWord} (ht : s.turn = .block) (hp : s.pending = some word) :
    step s = complete word s.afterTurn := by
  simp [step, ht, turnStep, blockStep, State.fetch, hp]

theorem step_reset {s : State} (ht : s.turn = .reset) : step s = .next s.afterTurn.platformReset := by
  simp [step, ht, turnStep]

theorem complete_illegal {word : CommandWord} {e : Illegal} (h : decode word = .error e) (s : State) :
    complete word s = .next (s.raiseError .illegal) := by
  simp only [complete, h]

theorem complete_command {word : CommandWord} {i : Instr} (h : decode word = .ok i) (s : State) :
    complete word s = exec i s := by
  simp only [complete, h]

/-- Settles O10: the pending word is fetched and decoded, and the turn is taken from the schedule. -/
theorem stepExecutesThePendingCommand : Obligations.StepExecutesThePendingCommand :=
  fun s _ _ ht hp hd => (step_pending ht hp).trans (complete_command hd s.afterTurn)

/-- Settles O12: with nothing pending the block fetches nothing. -/
theorem idleBlockChangesNothing : Obligations.IdleBlockChangesNothing := fun _ ht hp => step_idle ht hp

/-- Settles O5: the pending word is the one EINFO records. -/
theorem illegalWordEndsInErrorIllegal : Obligations.IllegalWordEndsInErrorIllegal := by
  intro s word e ht hp hd
  have hword : s.afterTurn.word = word := State.word_of_pending hp
  exact ⟨_, (step_pending ht hp).trans (complete_illegal hd _), hword ▸ raiseError_endedInError s.afterTurn .illegal,
    rfl⟩

/-- Settles O11: the word read back from the bus is the table's, and only the command's own word decodes to it. -/
theorem placedWordIsExecutedNext : Obligations.PlacedWordIsExecutedNext := by
  intro s nbits w i h
  have hd : decode (tableWord nbits w) = .ok i := by
    rw [decodeTableWord, offeredOnLanes_eq] at h
    cases hx : decode (tableWord nbits w) with
    | error e => rw [hx] at h; cases h
    | ok j => rw [hx] at h; cases h; rfl
  have hword : offeredOnLanes (tableWord nbits w) = encode i :=
    (offeredOnLanes_eq _).trans ((decode_eq_ok_iff_encode _ i).mp hd)
  rw [State.withFetchWord, hword, step_pending (s.turn_placeWord _) (s.placeWord_pending _), State.afterTurn_placeWord,
    complete_command ((decode_eq_ok_iff_encode _ i).mpr rfl)]
  rfl

/-- Settles O49: a host step asks first whether the address is in the window, then whether the form is right. -/
theorem malformedAccessHasNoStep : Obligations.MalformedAccessHasNoStep := by
  intro s a ht
  have hstep : step s = hostStep a s.afterTurn := by simp only [step, ht, turnStep]
  refine ⟨fun hlow hhigh => ?_, fun hout => ?_⟩
  · have hin : HostAccess.inWindow s.params.epxBase a.addr = true := by
      simp [HostAccess.inWindow, windowBytes, hlow, hhigh]
    refine ⟨fun hbad => ?_, fun hsize halign => ?_⟩
    · have ha : a.aligned s.params.epxBase = false := by
        simpa [HostAccess.aligned, ← not_and_or] using hbad
      simp [hstep, hostStep, hin, ha]
    · exact ⟨_, step_host ht (by simp [HostAccess.wellFormed, HostAccess.aligned, hin, hsize, halign])⟩
  · have hin : HostAccess.inWindow s.params.epxBase a.addr = false := by
      simp only [HostAccess.inWindow, Bool.and_eq_false_iff, decide_eq_false_iff_not]
      exact hout.imp Nat.not_le.mpr Nat.not_lt.mpr
    simp [hstep, hostStep, hin]

/-! ### What a step can do -/

/-- R5, R65, R91: what a step that answers a next state did. -/
inductive StepMoves (s t : State) : Prop
  | host (a : HostAccess) (turn : s.turn = .host a) (moves : HostMoves s.afterTurn a t)
    (kept : AccessKept s.afterTurn t)
  | idle (turn : s.turn = .block) (pending : s.pending = none) (eq : t = s.afterTurn)
  | illegal (turn : s.turn = .block) (pending : s.pending ≠ none) (eq : t = s.afterTurn.raiseError .illegal)
  | command (i : Instr) (turn : s.turn = .block) (pending : s.pending = some (encode i))
    (run : exec i s.afterTurn = .next t)
  | reset (turn : s.turn = .reset) (eq : t = s.afterTurn.platformReset)

theorem step_moves {s t : State} (h : step s = .next t) : StepMoves s t := by
  rcases step_cases h with ⟨a, ht, ha, rfl⟩ | ⟨ht, hp, rfl⟩ | ⟨word, ht, hp, hc⟩ | ⟨ht, rfl⟩
  · exact .host a ht (hostAccess_moves ha) (hostAccess_accessKept a s.afterTurn)
  · exact .idle ht hp rfl
  · cases hd : decode word with
    | error e => exact .illegal ht (by simp [hp]) (Host.Outcome.next.inj ((complete_illegal hd _).symm.trans hc)).symm
    | ok i =>
      exact .command i ht ((decode_eq_ok_iff_encode word i).mp hd ▸ hp) ((complete_command hd _).symm.trans hc)
  · exact .reset ht rfl

/-! ### The tables, BUILT and the sticky bits (R26, R27, R71) -/

theorem tablesKept_of_eq {s t : State} (hpt : t.pt = s.pt) (hfb : t.fb = s.fb) : TablesKept s t :=
  ⟨fun i => by rw [State.ptRead, hpt, State.ptRead], fun key => by rw [hfb]⟩

/-- R86: the one word of BUILD. -/
theorem encode_build : encode .build = 0x80000000#32 := by decide

/-- Settles O55: no access of the host writes PT or FB, and no command but BUILD does. -/
theorem onlyBuildWritesTheTables : Obligations.OnlyBuildWritesTheTables := by
  intro s t h hreset hbuild
  cases step_moves h with
  | host a turn moves kept => exact tablesKept_of_eq kept.pt kept.fb
  | idle turn pending eq => exact eq ▸ tablesKept_of_eq rfl rfl
  | illegal turn pending eq => exact eq ▸ tablesKept_of_eq rfl rfl
  | command i turn pending run =>
    have hi : i ≠ .build := fun hi => hbuild ⟨turn, by rw [pending, hi, encode_build]⟩
    obtain ⟨hpt, hfb, -⟩ := (exec_commandKept run).tables hi
    exact tablesKept_of_eq hpt hfb
  | reset turn eq => exact absurd turn hreset

/-- R26: a command that sets BUILT is a BUILD, and it is counted. -/
theorem built_set_by_command {i : Instr} {s t : State} (h : exec i s = .next t) (h0 : s.status.built = false)
    (h1 : t.status.built = true) : i = .build ∧ t.counters.cmdcnt = s.counters.cmdcnt + 1 := by
  constructor
  · by_contra hi
    obtain ⟨-, -, hbuilt⟩ := (exec_commandKept h).tables hi
    rw [hbuilt, h0] at h1
    cases h1
  · cases (ran_of_exec h).ends with
    | completed k st ok err ovr => rw [ok.counters]
    | failed cause mem eq =>
      rw [eq] at h1
      exact absurd (h0.symm.trans h1) (by decide)

/-- R26: of the host's accesses, only an idle write of CONFIG or N changes BUILT, and it clears it. -/
theorem HostMoves.built {s t : State} {a : HostAccess} (h : HostMoves s a t) :
    t.status.built = s.status.built ∨
      (t.status.built = false ∧ ∃ off v, a = .write (s.params.epxBase + off) 8 v ∧ (off = 0x020 ∨ off = 0x028) ∧
        s.pending = none) := by
  cases h with
  | kept hk => exact .inl (by rw [hk.status])
  | dropped | accepted | cleared => exact .inl rfl
  | configured v idle => exact .inr ⟨rfl, _, v, rfl, .inl rfl, idle⟩
  | resized v idle => exact .inr ⟨rfl, _, v, rfl, .inr rfl, idle⟩

/-- R26: what a step does to BUILT: nothing; or BUILD sets it; or reset, or an idle write of CONFIG or N, clears it. -/
theorem step_built {s t : State} (h : step s = .next t) :
    t.status.built = s.status.built ∨
    (t.status.built = true ∧
      s.turn = .block ∧ s.pending = some 0x80000000#32 ∧ t.counters.cmdcnt = s.counters.cmdcnt + 1) ∨
    (t.status.built = false ∧ (s.turn = .reset ∨
      ∃ off v, s.turn = .host (.write (s.params.epxBase + off) 8 v) ∧ (off = 0x020 ∨ off = 0x028) ∧
        s.pending = none)) := by
  cases step_moves h with
  | host a turn moves kept =>
    rcases moves.built with hb | ⟨hb, off, v, ha, hoff, hidle⟩
    · exact .inl hb
    · exact .inr (.inr ⟨hb, .inr ⟨off, v, ha ▸ turn, hoff, hidle⟩⟩)
  | idle turn pending eq => exact .inl (eq ▸ rfl)
  | illegal turn pending eq => exact .inl (eq ▸ rfl)
  | command i turn pending run =>
    cases h0 : s.status.built with
    | true => exact .inl ((exec_commandKept run).built h0)
    | false =>
      cases h1 : t.status.built with
      | false => exact .inl rfl
      | true =>
        obtain ⟨rfl, hcount⟩ := built_set_by_command run h0 h1
        exact .inr (.inl ⟨rfl, turn, pending.trans (congrArg some encode_build), hcount⟩)
  | reset turn eq => exact .inr (.inr ⟨eq ▸ rfl, .inl turn⟩)

/-- Settles O56: each way to change BUILT (`step_built`) gives it one value. -/
theorem builtChangesOnlyByBuildConfigNAndReset : Obligations.BuiltChangesOnlyByBuildConfigNAndReset := by
  intro s t h
  rcases step_built h with hb | ⟨hb, hset⟩ | ⟨hb, hcleared⟩
  · exact ⟨fun h0 h1 => by simp [hb, h0] at h1, fun h1 h0 => by simp [hb, h1] at h0⟩
  · exact ⟨fun _ _ => hset, fun _ h0 => by simp [hb] at h0⟩
  · exact ⟨fun _ h1 => by simp [hb] at h1, fun _ _ => hcleared⟩

/-- R27: DONE, ERR and OVR have not fallen. -/
structure StickyKept (s t : State) : Prop where
  done : s.status.done = true → t.status.done = true
  err : s.status.err = true → t.status.err = true
  ovr : s.status.ovr = true → t.status.ovr = true

theorem HostMoves.sticky {s t : State} {a : HostAccess} (h : HostMoves s a t) :
    StickyKept s t ∨
      ∃ v, a = .write (s.params.epxBase + 0x008) 8 v ∧ t.status = s.status.writeOneToClear v := by
  cases h with
  | kept hk => exact .inl (by constructor <;> rw [hk.status] <;> exact id)
  | dropped => exact .inl ⟨id, id, fun _ => rfl⟩
  | accepted | configured | resized => exact .inl ⟨id, id, id⟩
  | cleared v => exact .inr ⟨v, rfl, rfl⟩

/-- A bit that a write of 1 clears, and nothing else, falls only by a 1. -/
theorem written_one_of_fallen {b w : Bool} (h1 : b = true) (h0 : (b && !w) = false) : w = true := by
  simpa [h1] using h0

theorem stickyKept_of_exec {i : Instr} {s t : State} (h : exec i s = .next t) : StickyKept s t := by
  obtain ⟨-, -, hdone, hovr, herr, -, -⟩ := exec_commandKept h
  exact ⟨fun _ => hdone, herr, fun h1 => hovr.trans h1⟩

/-- Settles O57: a completion sets DONE, may set ERR and leaves OVR; of the host's accesses the write of STATUS alone
clears a bit, where it has a 1. -/
theorem stickyBitsFallOnlyByWriteOrReset : Obligations.StickyBitsFallOnlyByWriteOrReset := by
  intro s t h hreset
  have hmoves : StickyKept s t ∨
      ∃ v, s.turn = .host (.write (s.params.epxBase + 0x008) 8 v) ∧ t.status = s.status.writeOneToClear v := by
    cases step_moves h with
    | host a turn moves kept =>
      refine moves.sticky.imp (fun ⟨hdone, herr, hovr⟩ => ⟨hdone, herr, hovr⟩) fun ⟨v, ha, hst⟩ => ⟨v, ha ▸ turn, hst⟩
    | idle turn pending eq => exact .inl (eq ▸ ⟨id, id, id⟩)
    | illegal turn pending eq => exact .inl (eq ▸ ⟨fun _ => rfl, fun _ => rfl, id⟩)
    | command i turn pending run =>
      obtain ⟨hdone, herr, hovr⟩ := stickyKept_of_exec run
      exact .inl ⟨hdone, herr, hovr⟩
    | reset turn eq => exact absurd turn hreset
  rcases hmoves with ⟨hdone, herr, hovr⟩ | ⟨v, ht, hst⟩
  · exact ⟨fun h1 h0 => by simp [hdone h1] at h0, fun h1 h0 => by simp [herr h1] at h0,
      fun h1 h0 => by simp [hovr h1] at h0⟩
  · rw [hst]
    exact ⟨fun h1 h0 => ⟨v, ht, written_one_of_fallen h1 h0⟩, fun h1 h0 => ⟨v, ht, written_one_of_fallen h1 h0⟩,
      fun h1 h0 => ⟨v, ht, written_one_of_fallen h1 h0⟩⟩

/-! ### UNWRITTEN_READ (10_state.md R22) -/

theorem State.recordAfter_of_recorded {s : State} (i : Instr) (h : s.unwrittenRead = true) :
    s.recordAfter i = true := by
  simp [State.recordAfter, State.recordAfterReads, h]

theorem HostMoves.record {s t : State} {a : HostAccess} (h : HostMoves s a t) (hu : s.unwrittenRead = true) :
    t.unwrittenRead = true := by
  cases h with
  | kept hk => exact hk.record hu
  | dropped | accepted | cleared | configured | resized => exact hu

/-- No step takes the record of UNWRITTEN_READ back. -/
theorem step_record {s t : State} (h : step s = .next t) (hu : s.unwrittenRead = true) : t.unwrittenRead = true := by
  cases step_moves h with
  | host a turn moves kept => exact moves.record hu
  | idle turn pending eq => exact eq ▸ hu
  | illegal turn pending eq => exact eq ▸ hu
  | command i turn pending run => exact (ran_of_exec run).record.trans (State.recordAfter_of_recorded i hu)
  | reset turn eq => exact eq ▸ hu

/-- Settles O41: a command's record is said with what it does (`Ran`), and no step takes it back. -/
theorem unwrittenReadsAreRecorded : Obligations.UnwrittenReadsAreRecorded := by
  refine ⟨fun i s t h => (ran_of_exec h).record, fun s r hp => ⟨?_, ?_⟩, fun s r v hp => ⟨?_, ?_⟩,
    fun s t => step_record⟩
  · exact ⟨_, step_readLo hp r, rfl⟩
  · exact ⟨_, step_readHi hp r, rfl⟩
  · exact ⟨_, step_writeLo hp r v, by simp, by simp⟩
  · exact ⟨_, step_writeHi hp r v, by simp, by simp⟩

/-! ### Completion after the host's steps (R262) -/

theorem HostMoves.pending_of_busy {s t : State} {a : HostAccess} (h : HostMoves s a t) (hp : s.pending ≠ none) :
    t.pending = s.pending := by
  cases h with
  | kept hk => exact hk.pending
  | dropped | cleared => rfl
  | accepted v idle | configured v idle | resized v idle => exact absurd idle hp

/-- R65: the block's turn completes the pending command, whatever its word. -/
theorem step_completes {s : State} {word : CommandWord} (ht : s.turn = .block) (hp : s.pending = some word) :
    ∃ t, step s = .next t ∧ t.pending = none ∧ t.status.done = true ∧ t.schedule = s.schedule.tail := by
  cases hd : decode word with
  | error e => exact ⟨_, (step_pending ht hp).trans (complete_illegal hd _), rfl, rfl, rfl⟩
  | ok i =>
    obtain ⟨t, hran⟩ := exec_ran i s.afterTurn
    obtain ⟨hport, hidle, hdone, -, -, -, -⟩ := exec_commandKept hran.run
    exact ⟨t, (step_pending ht hp).trans ((complete_command hd _).trans hran.run), hidle, hdone, hport.schedule⟩

/-- R60, R262: a well-formed access while BUSY is a step that leaves the command pending. -/
theorem step_host_of_pending {s : State} {a : HostAccess} (ht : s.turn = .host a)
    (ha : a.wellFormed s.params.epxBase = true) (hp : s.pending ≠ none) :
    ∃ t, step s = .next t ∧ t.pending = s.pending ∧ t.schedule = s.schedule.tail ∧ t.params = s.params := by
  obtain ⟨-, -, -, -, hparams, hschedule, -⟩ := hostAccess_accessKept a s.afterTurn
  exact ⟨_, step_host ht ha, (hostAccess_moves (s := s.afterTurn) ha).pending_of_busy hp, hschedule, hparams⟩

/-- Settles O58, by induction on the accesses still to come. -/
theorem pendingCommandCompletesAfterTheHostsSteps : Obligations.PendingCommandCompletesAfterTheHostsSteps := by
  intro s word
  induction hl : s.schedule generalizing s with
  | nil =>
    intro hp _
    obtain ⟨t, hstep, hidle, hdone, hschedule⟩ := step_completes (by rw [State.turn, hl]; rfl) hp
    exact ⟨t, (run_succ hstep 0).trans (run_zero t), hidle, hdone, by rw [hschedule, hl]; rfl⟩
  | cons u rest ih =>
    intro hp hall
    obtain ⟨a, rfl, ha⟩ := hall u (List.mem_cons_self ..)
    obtain ⟨t, hstep, hpending, hschedule, hparams⟩ :=
      step_host_of_pending (by rw [State.turn, hl]; rfl) ha (by simp [hp])
    have hrest := ih t (by rw [hschedule, hl]; rfl) (hpending.trans hp)
      fun u hu => hparams ▸ hall u (List.mem_cons_of_mem _ hu)
    rwa [List.length_cons, run_succ hstep]

end Sys2Proof.Machine
end

section
/-! PROOFS. The invariant, and reset (10_state.md R24, R42, R43, 70_reset_and_hazards.md R240). The one idea: Inv
speaks of a few fields only, so a step that leaves those keeps it (`Inv.congr`); what is left is the accepted CMD
write, the writes of CONFIG and N, which unbuild, and a command, whose end leaves nothing pending. -/

namespace Sys2Proof.Machine

/-! ### STATUS as the host reads it (R24, R25) -/

theorem getLsbD_statusWord_busy (s : State) : s.statusWord.getLsbD 0 = true ↔ s.pending ≠ none := by
  simp [State.statusWord, Status.word, getElem_bitAt, State.busy, Option.isSome_iff_ne_none]

/-- Settles O50: each field stands at its bit, and no field at the rest. -/
theorem statusWordHoldsTheFields : Obligations.StatusWordHoldsTheFields := by
  intro s
  refine ⟨getLsbD_statusWord_busy s, ?_, getLsbD_statusWord_done s, getLsbD_statusWord_err s, ?_, ?_, ?_, ?_, ?_, ?_,
    ?_, fun k hk => getLsbD_statusWord_reserved s hk⟩
  all_goals simp [State.statusWord, Status.word, getElem_bitAt]

/-! ### Reset (R43, R240) -/

/-- Settles O54: the reset state has nothing pending, and what is not the block's state is kept. -/
theorem resetTurnAbandonsThePendingCommand : Obligations.ResetTurnAbandonsThePendingCommand :=
  fun _ ht => ⟨_, step_reset ht, rfl, rfl, rfl, rfl, rfl, rfl, rfl, rfl⟩

/-- R43: the block is in its reset state; what is not the block's state may be anything. -/
def State.IsBlockReset (t : State) : Prop :=
  ∃ p l d u n k, t = { State.reset with
    params := p, schedule := l, hostData := d, unwrittenRead := u, draws := n, resets := k }

theorem isBlockReset_reset : State.reset.IsBlockReset := ⟨_, _, _, _, _, _, rfl⟩

theorem isBlockReset_platformReset (s : State) : s.platformReset.IsBlockReset := ⟨_, _, _, _, _, _, rfl⟩

theorem reset_marks (r : Reg) : State.reset.w[r.val].loWritten = false ∧ State.reset.w[r.val].hiWritten = false := by
  simp [State.reset, WReg.reset]

theorem reset_images :
    State.reset.statusWord = 0 ∧ State.reset.config.word = 0 ∧ State.reset.irqen.word = 0 := by decide

/-- Settles O53: both states are the block's reset state, whose registers are written out in State.reset. -/
theorem resetGivesEveryRegisterItsValue : Obligations.ResetGivesEveryRegisterItsValue := by
  intro t ht
  have hreset : t.IsBlockReset := by
    rcases ht with rfl | ⟨s, hturn, hstep⟩
    · exact isBlockReset_reset
    · exact Host.Outcome.next.inj ((step_reset hturn).symm.trans hstep) ▸ isBlockReset_platformReset _
  obtain ⟨p, l, d, u, n, k, rfl⟩ := hreset
  obtain ⟨hstatus, hconfig, hirqen⟩ := reset_images
  exact ⟨reset_marks, hstatus, hconfig, rfl, rfl, rfl, rfl, hirqen, rfl, rfl, rfl, rfl⟩

/-! ### The invariant does not see the other fields -/

theorem Inv.congr {s t : State} (h : Inv s) (hb : t.status.built = s.status.built := by rfl)
    (he : t.status.err = true → s.status.err = true := by exact id) (hpending : t.pending = s.pending := by rfl)
    (hcmd : t.cmd = s.cmd := by rfl) (hconfig : t.config = s.config := by rfl) (hn : t.n = s.n := by rfl)
    (hcursor : t.cursor = s.cursor := by rfl) (hpt : t.pt = s.pt := by rfl) (hfb : t.fb = s.fb := by rfl)
    (heinfo : t.einfo = s.einfo := by rfl) (hparams : t.params = s.params := by rfl) : Inv t where
  busy := getLsbD_statusWord_busy t
  table hbuilt := by
    have hv := h.table (hb ▸ hbuilt)
    exact hv.congr (hcursor ▸ hv.cursor) hn hpt hfb (by rw [hconfig]) hparams
  errIdle herr := hpending.trans (h.errIdle (he herr))
  cmdWord := hpending ▸ hcmd ▸ h.cmdWord
  cmdHigh := hcmd ▸ h.cmdHigh
  einfoHigh := heinfo ▸ h.einfoHigh
  params := hparams ▸ h.params
  tableWf := by
    have := h.tableWf
    rwa [State.tableWf, hpt, hparams]

/-- A state with nothing pending has Inv when its table, CMD, EINFO and parameters are as they should be. -/
theorem inv_of_idle {t : State} (hidle : t.pending = none) (table : t.status.built = true → TableValid t)
    (cmdHigh : t.cmd.toNat < 2 ^ 32) (einfoHigh : t.einfo.toNat < 2 ^ 32)
    (params : Config.legal t.params.nmax t.params.epxBase = true) (tableWf : t.tableWf = true) : Inv t where
  busy := getLsbD_statusWord_busy t
  table := table
  errIdle _ := hidle
  cmdWord _ hw := absurd (hidle.symm.trans hw) (by simp)
  cmdHigh := cmdHigh
  einfoHigh := einfoHigh
  params := params
  tableWf := tableWf

theorem inv_of_isBlockReset {t : State} (h : t.IsBlockReset) (hp : Config.legal t.params.nmax t.params.epxBase = true) :
    Inv t := by
  have hzero : (0 : Half).toNat < 2 ^ 32 := by decide
  obtain ⟨p, l, d, u, n, k, rfl⟩ := h
  exact inv_of_idle rfl (fun hb => by cases hb) hzero hzero hp (decide_eq_true (Nat.zero_le _))

/-- Settles O59: at reset nothing is built or pending, and the default parameters are legal. -/
theorem invariantHoldsAtReset : Obligations.InvariantHoldsAtReset := inv_of_isBlockReset isBlockReset_reset (by decide)

/-! ### Host accesses keep the invariant -/

theorem zext64_word_lt (word : CommandWord) : (zext64 word).toNat < 2 ^ 32 :=
  zext64_toNat word (by decide) ▸ word.isLt

/-- R64: an accepted CMD write leaves CMD holding the pending word, and comes only with ERR = 0. -/
theorem Inv.accept {s : State} (h : Inv s) (he : s.status.err = false) (word : CommandWord) : Inv (s.accept word) where
  busy := getLsbD_statusWord_busy _
  table hb := (h.table hb).congr (h.table hb).cursor
  errIdle herr := absurd (he.symm.trans herr) (by decide)
  cmdWord _ hw := Option.some.inj hw ▸ rfl
  cmdHigh := zext64_word_lt word
  einfoHigh := h.einfoHigh
  params := h.params
  tableWf := h.tableWf

theorem Inv.hostMoves {s t : State} {a : HostAccess} (h : Inv s) (hm : HostMoves s a t) (hk : AccessKept s t) :
    Inv t := by
  cases hm with
  | kept hc =>
    exact h.congr (by rw [hc.status]) (by rw [hc.status]; exact id) hc.pending hc.cmd hc.config hc.n hc.cursor hk.pt
      hk.fb hk.einfo hk.params
  | dropped => exact h.congr
  | accepted v idle err => exact h.accept err _
  | cleared v => exact h.congr (he := fun herr => (Bool.and_eq_true_iff.mp herr).1)
  | configured v idle | resized v idle =>
    exact inv_of_idle idle (fun hb => by cases hb) h.cmdHigh h.einfoHigh h.params h.tableWf

/-! ### Commands keep the invariant -/

theorem State.tableWf_afterBuild {s : State} (hn : s.n.toNat ≤ s.params.nmax) (h : s.tableWf = true) :
    s.afterBuild.tableWf = true := by
  have hlength : s.afterBuild.pt.length = max s.n.toNat s.pt.length := builtTable_length _ _ _
  have hpt : s.pt.length ≤ s.params.nmax := of_decide_eq_true h
  exact decide_eq_true (hlength ▸ max_le hn hpt)

/-- R203: an error leaves the tables, and EINFO holds a command word. -/
theorem Inv.raiseError {s : State} (h : Inv s) (cause : Cause) : Inv (s.raiseError cause) :=
  inv_of_idle rfl (fun hb => (h.table hb).congr (h.table hb).cursor) h.cmdHigh (zext64_word_lt s.word) h.params
    h.tableWf

theorem Inv.afterBuild {s : State} (h : Inv s)
    (hcheck : buildCheck s.params.nmax s.n.toNat s.config.width64 = none) : Inv s.afterBuild :=
  inv_of_idle rfl (fun _ => tableValid_afterBuild h.params hcheck) h.cmdHigh h.einfoHigh h.params
    (State.tableWf_afterBuild ((buildCheck_eq_none _ _ _).mp hcheck).2.1 h.tableWf)

theorem Inv.exec_build {s t : State} (h : Inv s) (hrun : exec .build s = .next t) : Inv t := by
  cases hcheck : buildCheck s.params.nmax s.n.toNat s.config.width64 with
  | some cause =>
    cases (execBuild_of_failed hcheck).symm.trans hrun
    exact h.raiseError cause
  | none =>
    cases (execBuild_eq_afterBuild hcheck).symm.trans hrun
    exact h.afterBuild hcheck

/-- A command leaves EINFO, or records its word there. -/
theorem Ran.einfo_lt {i : Instr} {s t : State} (h : Ran i s t) (hs : s.einfo.toNat < 2 ^ 32) :
    t.einfo.toNat < 2 ^ 32 := by
  cases h.ends with
  | completed k st ok err ovr => exact ok.record.einfo ▸ hs
  | failed cause mem eq => exact eq ▸ zext64_word_lt _

/-- A command that is no BUILD leaves the table as it stands, and CURSOR at most N. -/
theorem Inv.exec_of_ne_build {i : Instr} {s t : State} (h : Inv s) (hi : i ≠ .build) (hrun : exec i s = .next t) :
    Inv t := by
  have hran := ran_of_exec hrun
  obtain ⟨hport, hidle, -, -, -, -, htables⟩ := exec_commandKept hrun
  obtain ⟨hpt, hfb, hbuilt⟩ := htables hi
  refine inv_of_idle hidle (fun hb => ?_) (hport.cmd ▸ h.cmdHigh) (hran.einfo_lt h.einfoHigh)
    (hport.params ▸ h.params) ?_
  · have hv := h.table (hbuilt ▸ hb)
    exact hv.congr (hran.cursor hv.cursor) hport.n hpt hfb (by rw [hport.config]) hport.params
  · have := h.tableWf
    rwa [State.tableWf, hpt, hport.params]

theorem Inv.exec {i : Instr} {s t : State} (h : Inv s) (hrun : Machine.exec i s = .next t) : Inv t := by
  by_cases hi : i = .build
  · exact h.exec_build (hi ▸ hrun)
  · exact h.exec_of_ne_build hi hrun

/-- Settles O60, by what the step did. -/
theorem invariantIsKeptByEveryStep : Obligations.InvariantIsKeptByEveryStep := by
  intro s t h hstep
  have hturn : Inv s.afterTurn := h.congr
  cases step_moves hstep with
  | host a turn moves kept => exact hturn.hostMoves moves kept
  | idle turn pending eq => exact eq ▸ hturn
  | illegal turn pending eq => exact eq ▸ hturn.raiseError .illegal
  | command i turn pending run => exact hturn.exec run
  | reset turn eq => exact eq ▸ inv_of_isBlockReset (isBlockReset_platformReset _) h.params

end Sys2Proof.Machine
end
